-- ==== Sys2Proof/Word.lean ====
section
/-! DEFINITION. The two word types of the machine (spec/00_scope.md R5, R7). -/

namespace Sys2Proof

/-- `u8`: a general register, `F`, `INSN`, an immediate, one memory byte (R5, R7). -/
abbrev Byte := BitVec 8

/-- `u16`: an address, `SP`, `IP` (R5, R7). -/
abbrev Addr := BitVec 16

end Sys2Proof
end

