-- ==== Sys2Proof/Machine/Bytes.lean ====
section
/-! DEFINITION. The bytes of a 16-bit quantity (spec/00_scope.md R7; spec/20_memory.md R54). -/

namespace Sys2Proof.Machine

/-- `{h, l}`, the 16-bit value `h * 256 + l` (R7). -/
def joinBytes (h l : Byte) : Addr := h ++ l

/-- `w[15:8]` (R7). -/
def highByte (w : Addr) : Byte := w.extractLsb' 8 8

/-- `w[7:0]` (R7). -/
def lowByte (w : Addr) : Byte := w.extractLsb' 0 8

/-- `zext_16(v)` (R7). -/
def zext16 (v : Byte) : Addr := v.setWidth 16

end Sys2Proof.Machine
end

