-- ==== Sys2Proof/Machine/Flags.lean ====
section
/-! DEFINITION. The fields of the flags register and every flag computation (spec/10_state.md R22 to R32). -/

namespace Sys2Proof.Machine

/-- The named bits of `F` (R22). -/
inductive Flag where
  /-- `F[ZERO]` (R24). -/
  | zero
  /-- `F[CARRY]` (R25). -/
  | carry
  /-- `F[GREATER]` (R26). -/
  | greater
  /-- `F[HALT]` (R27). -/
  | halt
deriving DecidableEq, Repr

/-- `FLAG_BIT` at its default: Zero 0, Carry 1, Greater 2, Halt 3 (R22, D3; log 4). -/
def Flag.bit : Flag → Nat
  | .zero => 0
  | .carry => 1
  | .greater => 2
  | .halt => 3

/-- Read one named bit of `F`. -/
def getFlag (f : Byte) (n : Flag) : Bool := f.getLsbD n.bit

/-- Write one named bit of `F`; the other seven keep their values (R28). -/
def setFlag (f : Byte) (n : Flag) (v : Bool) : Byte :=
  if v then f ||| (1#8 <<< n.bit) else f &&& ~~~(1#8 <<< n.bit)

/-- `SetZCG(old, new)` on the byte `F`: `Zero`, `Carry` (as `new < old`) and `Greater`; `Halt` and `F[7:4]` kept (R29). -/
def setZCG (f old new : Byte) : Byte :=
  setFlag (setFlag (setFlag f .zero (new == 0#8)) .carry (new.ult old)) .greater (!new.getLsbD 7)

/-- `SetZ(new)` on the byte `F`: `Zero` only (R30). -/
def setZ (f new : Byte) : Byte := setFlag f .zero (new == 0#8)

/-- The effect of `BRK` on the byte `F`: `F[HALT] <- 1` only (R27, R101). -/
def setHalt (f : Byte) : Byte := setFlag f .halt true

end Sys2Proof.Machine
end

