-- ==== Sys2Proof/Config.lean ====
section
/-! DEFINITION. What one machine fixes: the constants the spec states, and the values it leaves open.

The parameters with a default (`OPCODE_MAP`, `FLAG_BIT`, `STB_IMM_ORDER`; R6) stand at their defaults where they
are used: Sys2Proof/Decode.lean (`opcodeMap`, `encode`) and Sys2Proof/Machine/Flags.lean (`Flag.bit`).
No instruction of this hardware leaves a value undefined, so there is no opaque free value here. -/

namespace Sys2Proof.Config

/-- Reset value of `IP`, the entry point (R5, R40, R52, R280). -/
def entryPoint : Addr := 0x8000#16

/-- Reset value of `SP` (R5, R40, R52, R280). -/
def stackTop : Addr := 0x7FFF#16

/-- `INSN_RESET`, the latch `INSN` in `State.reset`. DESIGN CHOICE, unsafe: the spec leaves it open (R38, R40, D12);
log 1. The reset input itself takes any byte (`Machine.applyReset`). -/
def insnReset : Byte := 0x00#8

/-- What a byte of memory that nothing has written reads as. DESIGN CHOICE, unsafe: the spec leaves `INIT_MEM` open
(R70, D11); log 2. -/
def unlistedByte : Byte := 0x00#8

end Sys2Proof.Config
end

