-- ==== Sys2Proof/Machine/State.lean ====
section
/-! DEFINITION. The state of the core (spec/10_state.md, R20 to R40; spec/20_memory.md, R50), the reasons a step can
stop, and the machine right after reset. -/

namespace Sys2Proof.Machine

/-- The memory `M` (R50) as its listed bytes: addresses strictly rising, each below 65536, no entry equal to what an
unlisted address reads as (`Memory.wf`, `Memory.read`, `Memory.write` in Sys2Proof/Machine/Ops.lean). -/
abbrev Memory := List Host.Cell

/-- Everything the spec gives the machine: `(A, B, C, D, F, SP, IP, INSN, FAULT, M)`; nothing else is state (R39). -/
structure State where
  /-- General register `A` (R20). -/
  a : Byte
  /-- General register `B` (R20). -/
  b : Byte
  /-- General register `C` (R20). -/
  c : Byte
  /-- General register `D` (R20). -/
  d : Byte
  /-- Flags register `F`, all eight bits stored (R22, R23, R28). -/
  f : Byte
  /-- Stack pointer `SP`: the next free byte (R33). -/
  sp : Addr
  /-- Instruction pointer `IP` (R34). -/
  ip : Addr
  /-- Diagnostic latch `INSN`: the opcode byte the last performed step fetched (R38). -/
  insn : Byte
  /-- The sticky bit `FAULT` (R37). -/
  fault : Bool
  /-- The memory `M` (R50). -/
  mem : Memory
deriving DecidableEq, Repr

/-- The exceptions of the hardware (R250: the complete list has one entry). Safe: the name carries what R251 says is
recorded, and no step of this model stops with it, because the spec gives the exception an effect. -/
inductive Fault where
  /-- `IllegalOpcode(b)` (R251). Raised by the decode of a step whose opcode byte `b` is not in `OPCODE_MAP`. The step
  TAKES it (`raiseIllegalOpcode`, a next state); this name is what the output `fault` of R69 then shows
  (`faultOutput`). Safe: the hardware stops there too. -/
  | illegalOpcode (opcode : Byte)
deriving DecidableEq, Repr

/-- Why an instruction would have no meaning. -/
inductive Refusal where
  /-- An instruction of the opcode table whose arm gives it no meaning, by its mnemonic. No arm of `exec` answers it:
  every instruction has its meaning. Safe: the model would stop where the hardware goes on. -/
  | notModelled (mnemonic : String)
deriving DecidableEq, Repr

/-- The outcome of one step or one meaning. -/
abbrev Result := Host.Outcome State Fault Refusal

/-- The machine after `reset` (R40, R280): registers and flags zero, `SP = 0x7FFF`, `IP = 0x8000`, `FAULT = 0`. `INSN`
is `INSN_RESET` (log 1). Memory is not written by reset (R281); nothing is listed in it here (log 2). -/
def State.reset : State :=
  { a := 0x00#8, b := 0x00#8, c := 0x00#8, d := 0x00#8, f := 0x00#8,
    sp := Config.stackTop, ip := Config.entryPoint, insn := Config.insnReset, fault := false, mem := [] }

end Sys2Proof.Machine
end

