-- ==== Sys2Proof/Syntax.lean ====
section
/-! DEFINITION. The general registers and the instructions: one constructor per row of spec/opcode_table.json, in its order.

A register operand is part of the opcode's identity (R80, R83), so a constructor carries only the values of its operand
bytes: an immediate or shift count, an 8-bit address, a 16-bit address or target. -/

namespace Sys2Proof

/-- The four general registers (R20). -/
inductive Reg where
  | a
  | b
  | c
  | d
deriving DecidableEq, Repr

/-- The 147 instructions (R85, R88); each docstring names the row's mnemonic and its rule. -/
inductive Instr where
  -- No-op and halt: spec/40_nop_halt.md
  /-- `NOP` (R100). -/
  | nop
  /-- `BRK` (R101). -/
  | brk
  -- Add with carry: spec/41_adc.md
  /-- `ADC_A_B` (R102). -/
  | adcAB
  /-- `ADC_A_C` (R103). -/
  | adcAC
  /-- `ADC_A_D` (R104). -/
  | adcAD
  /-- `ADC_B_A` (R105). -/
  | adcBA
  /-- `ADC_B_C` (R106). -/
  | adcBC
  /-- `ADC_B_D` (R107). -/
  | adcBD
  /-- `ADC_C_A` (R108). -/
  | adcCA
  /-- `ADC_C_B` (R109). -/
  | adcCB
  /-- `ADC_C_D` (R110). -/
  | adcCD
  /-- `ADC_D_A` (R111). -/
  | adcDA
  /-- `ADC_D_B` (R112). -/
  | adcDB
  /-- `ADC_D_C` (R113). -/
  | adcDC
  /-- `ADC_A_IMM` (R114). -/
  | adcAImm (v : Byte)
  /-- `ADC_B_IMM` (R115). -/
  | adcBImm (v : Byte)
  /-- `ADC_C_IMM` (R116). -/
  | adcCImm (v : Byte)
  /-- `ADC_D_IMM` (R117). -/
  | adcDImm (v : Byte)
  /-- `ADC_A_MEM` (R118). -/
  | adcAMem (ea : Addr)
  /-- `ADC_B_MEM` (R119). -/
  | adcBMem (ea : Addr)
  /-- `ADC_C_MEM` (R120). -/
  | adcCMem (ea : Addr)
  /-- `ADC_D_MEM` (R121). -/
  | adcDMem (ea : Addr)
  -- Subtract with borrow: spec/42_sbb.md
  /-- `SBB_A_B` (R122). -/
  | sbbAB
  /-- `SBB_A_C` (R123). -/
  | sbbAC
  /-- `SBB_A_D` (R124). -/
  | sbbAD
  /-- `SBB_B_A` (R125). -/
  | sbbBA
  /-- `SBB_B_C` (R126). -/
  | sbbBC
  /-- `SBB_B_D` (R127). -/
  | sbbBD
  /-- `SBB_C_A` (R128). -/
  | sbbCA
  /-- `SBB_C_B` (R129). -/
  | sbbCB
  /-- `SBB_C_D` (R130). -/
  | sbbCD
  /-- `SBB_D_A` (R131). -/
  | sbbDA
  /-- `SBB_D_B` (R132). -/
  | sbbDB
  /-- `SBB_D_C` (R133). -/
  | sbbDC
  /-- `SBB_A_IMM` (R134). -/
  | sbbAImm (v : Byte)
  /-- `SBB_B_IMM` (R135). -/
  | sbbBImm (v : Byte)
  /-- `SBB_C_IMM` (R136). -/
  | sbbCImm (v : Byte)
  /-- `SBB_D_IMM` (R137). -/
  | sbbDImm (v : Byte)
  /-- `SBB_A_MEM` (R138). -/
  | sbbAMem (ea : Addr)
  /-- `SBB_B_MEM` (R139). -/
  | sbbBMem (ea : Addr)
  /-- `SBB_C_MEM` (R140). -/
  | sbbCMem (ea : Addr)
  /-- `SBB_D_MEM` (R141). -/
  | sbbDMem (ea : Addr)
  -- Bitwise AND: spec/43_and.md
  /-- `AND_A_B` (R142). -/
  | andAB
  /-- `AND_A_C` (R143). -/
  | andAC
  /-- `AND_A_D` (R144). -/
  | andAD
  /-- `AND_B_A` (R145). -/
  | andBA
  /-- `AND_B_C` (R146). -/
  | andBC
  /-- `AND_B_D` (R147). -/
  | andBD
  /-- `AND_C_A` (R148). -/
  | andCA
  /-- `AND_C_B` (R149). -/
  | andCB
  /-- `AND_C_D` (R150). -/
  | andCD
  /-- `AND_D_A` (R151). -/
  | andDA
  /-- `AND_D_B` (R152). -/
  | andDB
  /-- `AND_D_C` (R153). -/
  | andDC
  /-- `AND_A_IMM` (R154). -/
  | andAImm (v : Byte)
  /-- `AND_B_IMM` (R155). -/
  | andBImm (v : Byte)
  /-- `AND_C_IMM` (R156). -/
  | andCImm (v : Byte)
  /-- `AND_D_IMM` (R157). -/
  | andDImm (v : Byte)
  /-- `AND_A_MEM` (R158). -/
  | andAMem (ea : Addr)
  /-- `AND_B_MEM` (R159). -/
  | andBMem (ea : Addr)
  /-- `AND_C_MEM` (R160). -/
  | andCMem (ea : Addr)
  /-- `AND_D_MEM` (R161). -/
  | andDMem (ea : Addr)
  -- Bitwise OR: spec/44_or.md
  /-- `OR_A_B` (R162). -/
  | orAB
  /-- `OR_A_C` (R163). -/
  | orAC
  /-- `OR_A_D` (R164). -/
  | orAD
  /-- `OR_B_A` (R165). -/
  | orBA
  /-- `OR_B_C` (R166). -/
  | orBC
  /-- `OR_B_D` (R167). -/
  | orBD
  /-- `OR_C_A` (R168). -/
  | orCA
  /-- `OR_C_B` (R169). -/
  | orCB
  /-- `OR_C_D` (R170). -/
  | orCD
  /-- `OR_D_A` (R171). -/
  | orDA
  /-- `OR_D_B` (R172). -/
  | orDB
  /-- `OR_D_C` (R173). -/
  | orDC
  /-- `OR_A_IMM` (R174). -/
  | orAImm (v : Byte)
  /-- `OR_B_IMM` (R175). -/
  | orBImm (v : Byte)
  /-- `OR_C_IMM` (R176). -/
  | orCImm (v : Byte)
  /-- `OR_D_IMM` (R177). -/
  | orDImm (v : Byte)
  /-- `OR_A_MEM` (R178). -/
  | orAMem (ea : Addr)
  /-- `OR_B_MEM` (R179). -/
  | orBMem (ea : Addr)
  /-- `OR_C_MEM` (R180). -/
  | orCMem (ea : Addr)
  /-- `OR_D_MEM` (R181). -/
  | orDMem (ea : Addr)
  -- Unary NOT and shifts: spec/45_not_shift.md
  /-- `NOT_A` (R182). -/
  | notA
  /-- `NOT_B` (R183). -/
  | notB
  /-- `NOT_C` (R184). -/
  | notC
  /-- `NOT_D` (R185). -/
  | notD
  /-- `SHL_A_IMM` (R186). -/
  | shlAImm (n : Byte)
  /-- `SHL_B_IMM` (R187). -/
  | shlBImm (n : Byte)
  /-- `SHL_C_IMM` (R188). -/
  | shlCImm (n : Byte)
  /-- `SHL_D_IMM` (R189). -/
  | shlDImm (n : Byte)
  /-- `SHR_A_IMM` (R190). -/
  | shrAImm (n : Byte)
  /-- `SHR_B_IMM` (R191). -/
  | shrBImm (n : Byte)
  /-- `SHR_C_IMM` (R192). -/
  | shrCImm (n : Byte)
  /-- `SHR_D_IMM` (R193). -/
  | shrDImm (n : Byte)
  -- Load, store and move: spec/46_load_store_move.md
  /-- `LDB_A_IMM` (R194). -/
  | ldbAImm (v : Byte)
  /-- `LDB_B_IMM` (R195). -/
  | ldbBImm (v : Byte)
  /-- `LDB_C_IMM` (R196). -/
  | ldbCImm (v : Byte)
  /-- `LDB_D_IMM` (R197). -/
  | ldbDImm (v : Byte)
  /-- `LDB_A_MEM` (R198). -/
  | ldbAMem (ea : Addr)
  /-- `LDB_B_MEM` (R199). -/
  | ldbBMem (ea : Addr)
  /-- `LDB_C_MEM` (R200). -/
  | ldbCMem (ea : Addr)
  /-- `LDB_D_MEM` (R201). -/
  | ldbDMem (ea : Addr)
  /-- `STB_MEM_A` (R202). -/
  | stbMemA (ea : Addr)
  /-- `STB_MEM_B` (R203). -/
  | stbMemB (ea : Addr)
  /-- `STB_MEM_C` (R204). -/
  | stbMemC (ea : Addr)
  /-- `STB_MEM_D` (R205). -/
  | stbMemD (ea : Addr)
  /-- `STB_MEM_IMM` (R206). -/
  | stbMemImm (ea : Addr) (v : Byte)
  /-- `MVB_A_B` (R207). -/
  | mvbAB
  /-- `MVB_A_C` (R208). -/
  | mvbAC
  /-- `MVB_A_D` (R209). -/
  | mvbAD
  /-- `MVB_B_A` (R210). -/
  | mvbBA
  /-- `MVB_B_C` (R211). -/
  | mvbBC
  /-- `MVB_B_D` (R212). -/
  | mvbBD
  /-- `MVB_C_A` (R213). -/
  | mvbCA
  /-- `MVB_C_B` (R214). -/
  | mvbCB
  /-- `MVB_C_D` (R215). -/
  | mvbCD
  /-- `MVB_D_A` (R216). -/
  | mvbDA
  /-- `MVB_D_B` (R217). -/
  | mvbDB
  /-- `MVB_D_C` (R218). -/
  | mvbDC
  /-- `MVB_F_A` (R219). -/
  | mvbFA
  /-- `MVB_F_B` (R220). -/
  | mvbFB
  /-- `MVB_F_C` (R221). -/
  | mvbFC
  /-- `MVB_F_D` (R222). -/
  | mvbFD
  /-- `MVB_A_F` (R223). -/
  | mvbAF
  /-- `MVB_B_F` (R224). -/
  | mvbBF
  /-- `MVB_C_F` (R225). -/
  | mvbCF
  /-- `MVB_D_F` (R226). -/
  | mvbDF
  -- Conditional jumps: spec/47_jump.md
  /-- `JZ` (R227). -/
  | jz (t : Addr)
  /-- `JG` (R228). -/
  | jg (t : Addr)
  /-- `JC` (R229). -/
  | jc (t : Addr)
  -- Push and pop: spec/48_stack.md
  /-- `PUSH_A` (R230). -/
  | pushA
  /-- `PUSH_B` (R231). -/
  | pushB
  /-- `PUSH_C` (R232). -/
  | pushC
  /-- `PUSH_D` (R233). -/
  | pushD
  /-- `PUSH_F` (R234). -/
  | pushF
  /-- `POP_A` (R235). -/
  | popA
  /-- `POP_B` (R236). -/
  | popB
  /-- `POP_C` (R237). -/
  | popC
  /-- `POP_D` (R238). -/
  | popD
  /-- `POP_F` (R239). -/
  | popF
  /-- `PUSH_IP` (R240). -/
  | pushIp
  /-- `POP_IP` (R241). -/
  | popIp
  /-- `POP_DISCARD` (R242). -/
  | popDiscard
  /-- `PUSH_IMM` (R243). -/
  | pushImm (v : Byte)
  /-- `PUSH_MEM` (R244). -/
  | pushMem (z : Byte)
  -- Indirect loads: spec/49_deref.md
  /-- `DEREF_AB` (R245). -/
  | derefAB
  /-- `DEREF_CD` (R246). -/
  | derefCD
deriving DecidableEq, Repr

/-- The five formats (R80). -/
inductive Format where
  /-- Opcode only. -/
  | f0
  /-- Opcode, `imm8`. -/
  | fi
  /-- Opcode, `addr8`. -/
  | fz
  /-- Opcode, `addr16` low byte, high byte. -/
  | fa
  /-- Opcode, `addr16` low byte, high byte, `imm8`. -/
  | fai
deriving DecidableEq, Repr

/-- Length in bytes of a format (R80). -/
def Format.length : Format → Nat
  | .f0 => 1
  | .fi => 2
  | .fz => 2
  | .fa => 3
  | .fai => 4

/-- The format of an instruction (R85, column "format"). -/
def Instr.format : Instr → Format
  | .nop | .brk | .adcAB | .adcAC | .adcAD | .adcBA | .adcBC | .adcBD | .adcCA | .adcCB | .adcCD | .adcDA | .adcDB
  | .adcDC | .sbbAB | .sbbAC | .sbbAD | .sbbBA | .sbbBC | .sbbBD | .sbbCA | .sbbCB | .sbbCD | .sbbDA | .sbbDB
  | .sbbDC | .andAB | .andAC | .andAD | .andBA | .andBC | .andBD | .andCA | .andCB | .andCD | .andDA | .andDB
  | .andDC | .orAB | .orAC | .orAD | .orBA | .orBC | .orBD | .orCA | .orCB | .orCD | .orDA | .orDB | .orDC | .notA
  | .notB | .notC | .notD | .mvbAB | .mvbAC | .mvbAD | .mvbBA | .mvbBC | .mvbBD | .mvbCA | .mvbCB | .mvbCD | .mvbDA
  | .mvbDB | .mvbDC | .mvbFA | .mvbFB | .mvbFC | .mvbFD | .mvbAF | .mvbBF | .mvbCF | .mvbDF | .pushA | .pushB
  | .pushC | .pushD | .pushF | .popA | .popB | .popC | .popD | .popF | .pushIp | .popIp | .popDiscard | .derefAB
  | .derefCD => .f0
  | .adcAImm _ | .adcBImm _ | .adcCImm _ | .adcDImm _ | .sbbAImm _ | .sbbBImm _ | .sbbCImm _ | .sbbDImm _
  | .andAImm _ | .andBImm _ | .andCImm _ | .andDImm _ | .orAImm _ | .orBImm _ | .orCImm _ | .orDImm _ | .shlAImm _
  | .shlBImm _ | .shlCImm _ | .shlDImm _ | .shrAImm _ | .shrBImm _ | .shrCImm _ | .shrDImm _ | .ldbAImm _
  | .ldbBImm _ | .ldbCImm _ | .ldbDImm _ | .pushImm _ => .fi
  | .pushMem _ => .fz
  | .adcAMem _ | .adcBMem _ | .adcCMem _ | .adcDMem _ | .sbbAMem _ | .sbbBMem _ | .sbbCMem _ | .sbbDMem _
  | .andAMem _ | .andBMem _ | .andCMem _ | .andDMem _ | .orAMem _ | .orBMem _ | .orCMem _ | .orDMem _ | .ldbAMem _
  | .ldbBMem _ | .ldbCMem _ | .ldbDMem _ | .stbMemA _ | .stbMemB _ | .stbMemC _ | .stbMemD _ | .jz _ | .jg _
  | .jc _ => .fa
  | .stbMemImm _ _ => .fai

/-- Length in bytes of an instruction (R80, R85). -/
def Instr.length (i : Instr) : Nat := i.format.length

end Sys2Proof
end

