-- ==== Sys2Proof/Machine/Ops.lean ====
section
/-! DEFINITION. The named operations over memory and registers: the access primitives (R53), the stack primitives (R57
to R60), the fetch primitives (R81, R82), the arithmetic of the families (R102 to R193), taking the exception (R251),
the way out of it (reset, R280) and the run state (R36). -/

namespace Sys2Proof.Machine

/-! ## Memory -/

/-- `M[a]`: the listed byte, else what an unlisted address reads as (R50; log 2). -/
def Memory.read : Memory → Nat → Byte
  | [], _ => Config.unlistedByte
  | c :: m, a => if c.1 = a then c.2 else Memory.read m a

/-- `m` without any entry for `a`. -/
def Memory.erase (m : Memory) (a : Nat) : Memory := m.filter fun c => c.1 != a

/-- `m` with an entry for `a` before the first higher address. -/
def Memory.insert : Memory → Nat → Byte → Memory
  | [], a, v => [(a, v)]
  | c :: m, a, v => if a < c.1 then (a, v) :: c :: m else c :: Memory.insert m a v

/-- `M[a] <- v`, keeping the canonical form (R50, R51). -/
def Memory.write (m : Memory) (a : Nat) (v : Byte) : Memory :=
  if v = Config.unlistedByte then m.erase a else (m.erase a).insert a v

/-- The canonical form: addresses strictly rising and below 65536, no entry equal to what an unlisted address reads as. -/
def Memory.wf (m : Memory) : Bool :=
  decide (m.Pairwise fun c e => c.1 < e.1) && m.all fun c => decide (c.1 < 65536) && c.2 != Config.unlistedByte

/-- `MemRead(a, 1)` (R53). -/
def State.memRead (s : State) (a : Addr) : Byte := s.mem.read a.toNat

/-- `MemWrite(a, 1, v)` (R53). -/
def State.memWrite (s : State) (a : Addr) (v : Byte) : State := { s with mem := s.mem.write a.toNat v }

/-- The `n` bytes at `a`, `a + 1`, … (modulo 65536, R56). -/
def State.bytesAt (s : State) (a : Addr) : Nat → List Byte
  | 0 => []
  | n + 1 => s.memRead a :: s.bytesAt (a + 1) n

/-- Bytes stored at `a`, `a + 1`, … (modulo 65536): how a program gets into memory before it runs (R70). -/
def State.storeBytes (s : State) (a : Addr) : List Byte → State
  | [] => s
  | v :: vs => (s.memWrite a v).storeBytes (a + 1) vs

/-! ## Registers -/

/-- Read a general register (R20). -/
def State.reg (s : State) : Reg → Byte
  | .a => s.a
  | .b => s.b
  | .c => s.c
  | .d => s.d

/-- Write a general register; the registers do not alias (R20). -/
def State.setReg (s : State) (r : Reg) (v : Byte) : State :=
  match r with
  | .a => { s with a := v }
  | .b => { s with b := v }
  | .c => { s with c := v }
  | .d => { s with d := v }

/-- Write all eight bits of `F` (R23). -/
def State.setF (s : State) (v : Byte) : State := { s with f := v }

/-- Write `SP` (R33: only the stack primitives do). -/
def State.setSp (s : State) (w : Addr) : State := { s with sp := w }

/-- Write `IP` (R34). -/
def State.setIp (s : State) (w : Addr) : State := { s with ip := w }

/-- Latch the opcode byte of a step in `INSN` (R38). -/
def State.latch (s : State) (op : Byte) : State := { s with insn := op }

/-- A named bit of the stored `F` (R22). -/
def State.flag (s : State) (n : Flag) : Bool := getFlag s.f n

/-! ## Run state, exception, reset -/

/-- The three run states (R36). -/
inductive RunState where
  /-- Accepts steps. -/
  | running
  /-- `F[HALT] = 1` and `FAULT = 0`. -/
  | halted
  /-- `FAULT = 1`. -/
  | faulted
deriving DecidableEq, Repr

/-- The run state, a function of the stored state (R36). -/
def State.runState (s : State) : RunState :=
  if s.fault then .faulted else if s.flag .halt then .halted else .running

/-- Taking `IllegalOpcode(op)`: `INSN <- op`, `FAULT <- 1`, nothing else; `IP` stays at the byte (R251, R252). There is
no handler, no saved register and no return (R255, R256): the way out is `applyReset`. -/
def raiseIllegalOpcode (op : Byte) (s : State) : State := { s.latch op with fault := true }

/-- The `reset` input (R280, R281, R284): in any run state, registers and flags zeroed, `SP` and `IP` to their constants,
`FAULT` cleared, memory untouched. `insnReset` is the open parameter `INSN_RESET` (R38, D12). -/
def applyReset (insnReset : Byte) (s : State) : State :=
  { State.reset with insn := insnReset, mem := s.mem }

/-- The output `continue` (R69, R84). -/
def continueOutput (s : State) : Bool := !s.flag .halt && !s.fault

/-- The output `fault` with the offending byte (R69, R251). -/
def faultOutput (s : State) : Option Fault := if s.fault then some (.illegalOpcode s.insn) else none

/-! ## Fetch primitives -/

/-- `fetch8()`: the byte at `IP`, and `IP` advanced by 1 (R81). -/
def fetch8 (s : State) : Byte × State := (s.memRead s.ip, s.setIp (s.ip + 1))

/-- `fetch16()`: two `fetch8`, low byte first (R82). -/
def fetch16 (s : State) : Addr × State :=
  let lo := fetch8 s
  let hi := fetch8 lo.2
  (joinBytes hi.1 lo.1, hi.2)

/-! ## Stack primitives -/

/-- `push8(v)`: store at `SP`, then decrement `SP` (R57). -/
def push8 (v : Byte) (s : State) : State := (s.memWrite s.sp v).setSp (s.sp - 1)

/-- `pop8()`: increment `SP`, then read at the new `SP` (R58). -/
def pop8 (s : State) : Byte × State :=
  let s' := s.setSp (s.sp + 1)
  (s'.memRead s'.sp, s')

/-- `push16(w)`: the high byte, then the low byte (R59). -/
def push16 (w : Addr) (s : State) : State := push8 (lowByte w) (push8 (highByte w) s)

/-- `pop16()`: the low byte, then the high byte (R60). -/
def pop16 (s : State) : Addr × State :=
  let lo := pop8 s
  let hi := pop8 lo.2
  (joinBytes hi.1 lo.1, hi.2)

/-! ## Arithmetic -/

/-- `(old + v + c) mod 256` over the integers (R102 to R121, D20). -/
def adcResult (old v : Byte) (c : Bool) : Byte := BitVec.ofNat 8 (old.toNat + v.toNat + c.toNat)

/-- `(old - v - c) mod 256` over the integers (R122 to R141, D20). -/
def sbbResult (old v : Byte) (c : Bool) : Byte := BitVec.ofInt 8 ((old.toNat : Int) - v.toNat - c.toNat)

/-- `255 - x`, every bit inverted (R182 to R185). -/
def notResult (x : Byte) : Byte := BitVec.ofNat 8 (255 - x.toNat)

/-- `if n >= 8 then 0 else (x * 2^n) mod 256`; the count is not reduced (R186 to R189, D9; log 6). -/
def shlResult (x n : Byte) : Byte :=
  if 8 ≤ n.toNat then 0#8 else BitVec.ofNat 8 (x.toNat * 2 ^ n.toNat)

/-- `if n >= 8 then 0 else floor(x / 2^n)`; logical, the count is not reduced (R190 to R193, D9; log 6). -/
def shrResult (x n : Byte) : Byte :=
  if 8 ≤ n.toNat then 0#8 else BitVec.ofNat 8 (x.toNat / 2 ^ n.toNat)

/-- The end of every arithmetic-logic instruction: write the destination, then `SetZCG(old, new)` (R29). -/
def writeAlu (r : Reg) (new : Byte) (s : State) : State :=
  (s.setReg r new).setF (setZCG s.f (s.reg r) new)

/-- The end of every `NOT` and shift: write the register, then `SetZ(new)` (R30). -/
def writeUnary (r : Reg) (new : Byte) (s : State) : State :=
  (s.setReg r new).setF (setZ s.f new)

/-- Add with carry: operand `v` into `r` (R102 to R121). -/
def adc (r : Reg) (v : Byte) (s : State) : State := writeAlu r (adcResult (s.reg r) v (s.flag .carry)) s

/-- Subtract with borrow: operand `v` from `r` (R122 to R141). -/
def sbb (r : Reg) (v : Byte) (s : State) : State := writeAlu r (sbbResult (s.reg r) v (s.flag .carry)) s

/-- Bitwise AND of `v` into `r` (R142 to R161). -/
def and8 (r : Reg) (v : Byte) (s : State) : State := writeAlu r (s.reg r &&& v) s

/-- Bitwise OR of `v` into `r` (R162 to R181). -/
def or8 (r : Reg) (v : Byte) (s : State) : State := writeAlu r (s.reg r ||| v) s

/-- Complement of `r` in place (R182 to R185). -/
def not8 (r : Reg) (s : State) : State := writeUnary r (notResult (s.reg r)) s

/-- Logical left shift of `r` by `n` (R186 to R189). -/
def shl8 (r : Reg) (n : Byte) (s : State) : State := writeUnary r (shlResult (s.reg r) n) s

/-- Logical right shift of `r` by `n` (R190 to R193). -/
def shr8 (r : Reg) (n : Byte) (s : State) : State := writeUnary r (shrResult (s.reg r) n) s

/-! ## Control transfer -/

/-- `if F[n] = 1 then IP <- t` (R227 to R229). -/
def jumpIf (n : Flag) (t : Addr) (s : State) : State := if s.flag n then s.setIp t else s

/-- Pop into a general register (R235 to R238). -/
def popReg (r : Reg) (s : State) : State :=
  let p := pop8 s
  p.2.setReg r p.1

end Sys2Proof.Machine
end

