-- ==== Sys2Proof/Machine/Operands.lean ====
section
/-! DEFINITION. Every operand form (spec/30_encoding.md R83) and every effective address (spec/20_memory.md R62). The
operand bytes have been fetched when a meaning runs: a constructor of `Instr` carries their values. -/

namespace Sys2Proof.Machine

/-- A source register, part of the opcode's identity (R83). -/
def operandReg (q : Reg) (s : State) : Byte := s.reg q

/-- `IMM`: the fetched byte itself, unsigned, not extended, not scaled (R83). -/
def operandImm (v : Byte) : Byte := v

/-- `MEM`: the byte at the fetched 16-bit address (R62 (a), R83). -/
def operandMem (ea : Addr) (s : State) : Byte := s.memRead ea

/-- `ZMEM`: the byte at the zero-extended 8-bit address (R62 (b), R83, D8). -/
def operandZMem (z : Byte) (s : State) : Byte := s.memRead (zext16 z)

/-- Register pair: `{hi, lo}` (R62 (c)). -/
def pairAddress (hi lo : Reg) (s : State) : Addr := joinBytes (s.reg hi) (s.reg lo)

/-- The indirect load of `DEREF`: the byte at `{hi, lo}` into `lo`; no stack access (R245, R246, D10; log 8). -/
def derefPair (hi lo : Reg) (s : State) : State := s.setReg lo (s.memRead (pairAddress hi lo s))

end Sys2Proof.Machine
end

