-- ==== Sys2Proof/Machine/Adc.lean ====
section
/-! DEFINITION. Add with carry: the meanings (spec/41_adc.md), on the state after the fetch of the instruction's bytes. -/

namespace Sys2Proof.Machine

/-- `ADC_A_B` (R102): `A <- (A + B + Carry) mod 256; SetZCG`. -/
def execAdcAB (s : State) : Result := .next (adc .a (operandReg .b s) s)

/-- `ADC_A_C` (R103): `A <- (A + C + Carry) mod 256; SetZCG`. -/
def execAdcAC (s : State) : Result := .next (adc .a (operandReg .c s) s)

/-- `ADC_A_D` (R104): `A <- (A + D + Carry) mod 256; SetZCG`. -/
def execAdcAD (s : State) : Result := .next (adc .a (operandReg .d s) s)

/-- `ADC_B_A` (R105): `B <- (B + A + Carry) mod 256; SetZCG`. -/
def execAdcBA (s : State) : Result := .next (adc .b (operandReg .a s) s)

/-- `ADC_B_C` (R106): `B <- (B + C + Carry) mod 256; SetZCG`. -/
def execAdcBC (s : State) : Result := .next (adc .b (operandReg .c s) s)

/-- `ADC_B_D` (R107): `B <- (B + D + Carry) mod 256; SetZCG`. -/
def execAdcBD (s : State) : Result := .next (adc .b (operandReg .d s) s)

/-- `ADC_C_A` (R108): `C <- (C + A + Carry) mod 256; SetZCG`. -/
def execAdcCA (s : State) : Result := .next (adc .c (operandReg .a s) s)

/-- `ADC_C_B` (R109): `C <- (C + B + Carry) mod 256; SetZCG`. -/
def execAdcCB (s : State) : Result := .next (adc .c (operandReg .b s) s)

/-- `ADC_C_D` (R110): `C <- (C + D + Carry) mod 256; SetZCG`. -/
def execAdcCD (s : State) : Result := .next (adc .c (operandReg .d s) s)

/-- `ADC_D_A` (R111): `D <- (D + A + Carry) mod 256; SetZCG`. -/
def execAdcDA (s : State) : Result := .next (adc .d (operandReg .a s) s)

/-- `ADC_D_B` (R112): `D <- (D + B + Carry) mod 256; SetZCG`. -/
def execAdcDB (s : State) : Result := .next (adc .d (operandReg .b s) s)

/-- `ADC_D_C` (R113): `D <- (D + C + Carry) mod 256; SetZCG`. -/
def execAdcDC (s : State) : Result := .next (adc .d (operandReg .c s) s)

/-- `ADC_A_IMM` (R114): `A <- (A + imm8 + Carry) mod 256; SetZCG`. -/
def execAdcAImm (v : Byte) (s : State) : Result := .next (adc .a (operandImm v) s)

/-- `ADC_B_IMM` (R115): `B <- (B + imm8 + Carry) mod 256; SetZCG`. -/
def execAdcBImm (v : Byte) (s : State) : Result := .next (adc .b (operandImm v) s)

/-- `ADC_C_IMM` (R116): `C <- (C + imm8 + Carry) mod 256; SetZCG`. -/
def execAdcCImm (v : Byte) (s : State) : Result := .next (adc .c (operandImm v) s)

/-- `ADC_D_IMM` (R117): `D <- (D + imm8 + Carry) mod 256; SetZCG`. -/
def execAdcDImm (v : Byte) (s : State) : Result := .next (adc .d (operandImm v) s)

/-- `ADC_A_MEM` (R118): `A <- (A + MemRead(addr16, 1) + Carry) mod 256; SetZCG`. -/
def execAdcAMem (ea : Addr) (s : State) : Result := .next (adc .a (operandMem ea s) s)

/-- `ADC_B_MEM` (R119): `B <- (B + MemRead(addr16, 1) + Carry) mod 256; SetZCG`. -/
def execAdcBMem (ea : Addr) (s : State) : Result := .next (adc .b (operandMem ea s) s)

/-- `ADC_C_MEM` (R120): `C <- (C + MemRead(addr16, 1) + Carry) mod 256; SetZCG`. -/
def execAdcCMem (ea : Addr) (s : State) : Result := .next (adc .c (operandMem ea s) s)

/-- `ADC_D_MEM` (R121): `D <- (D + MemRead(addr16, 1) + Carry) mod 256; SetZCG`. -/
def execAdcDMem (ea : Addr) (s : State) : Result := .next (adc .d (operandMem ea s) s)

end Sys2Proof.Machine
end

