-- ==== Sys2Proof/Machine/And.lean ====
section
/-! DEFINITION. Bitwise AND: the meanings (spec/43_and.md), on the state after the fetch of the instruction's bytes. -/

namespace Sys2Proof.Machine

/-- `AND_A_B` (R142): `A <- A AND B; SetZCG`. -/
def execAndAB (s : State) : Result := .next (and8 .a (operandReg .b s) s)

/-- `AND_A_C` (R143): `A <- A AND C; SetZCG`. -/
def execAndAC (s : State) : Result := .next (and8 .a (operandReg .c s) s)

/-- `AND_A_D` (R144): `A <- A AND D; SetZCG`. -/
def execAndAD (s : State) : Result := .next (and8 .a (operandReg .d s) s)

/-- `AND_B_A` (R145): `B <- B AND A; SetZCG`. -/
def execAndBA (s : State) : Result := .next (and8 .b (operandReg .a s) s)

/-- `AND_B_C` (R146): `B <- B AND C; SetZCG`. -/
def execAndBC (s : State) : Result := .next (and8 .b (operandReg .c s) s)

/-- `AND_B_D` (R147): `B <- B AND D; SetZCG`. -/
def execAndBD (s : State) : Result := .next (and8 .b (operandReg .d s) s)

/-- `AND_C_A` (R148): `C <- C AND A; SetZCG`. -/
def execAndCA (s : State) : Result := .next (and8 .c (operandReg .a s) s)

/-- `AND_C_B` (R149): `C <- C AND B; SetZCG`. -/
def execAndCB (s : State) : Result := .next (and8 .c (operandReg .b s) s)

/-- `AND_C_D` (R150): `C <- C AND D; SetZCG`. -/
def execAndCD (s : State) : Result := .next (and8 .c (operandReg .d s) s)

/-- `AND_D_A` (R151): `D <- D AND A; SetZCG`. -/
def execAndDA (s : State) : Result := .next (and8 .d (operandReg .a s) s)

/-- `AND_D_B` (R152): `D <- D AND B; SetZCG`. -/
def execAndDB (s : State) : Result := .next (and8 .d (operandReg .b s) s)

/-- `AND_D_C` (R153): `D <- D AND C; SetZCG`. -/
def execAndDC (s : State) : Result := .next (and8 .d (operandReg .c s) s)

/-- `AND_A_IMM` (R154): `A <- A AND imm8; SetZCG`. -/
def execAndAImm (v : Byte) (s : State) : Result := .next (and8 .a (operandImm v) s)

/-- `AND_B_IMM` (R155): `B <- B AND imm8; SetZCG`. -/
def execAndBImm (v : Byte) (s : State) : Result := .next (and8 .b (operandImm v) s)

/-- `AND_C_IMM` (R156): `C <- C AND imm8; SetZCG`. -/
def execAndCImm (v : Byte) (s : State) : Result := .next (and8 .c (operandImm v) s)

/-- `AND_D_IMM` (R157): `D <- D AND imm8; SetZCG`. -/
def execAndDImm (v : Byte) (s : State) : Result := .next (and8 .d (operandImm v) s)

/-- `AND_A_MEM` (R158): `A <- A AND MemRead(addr16, 1); SetZCG`. -/
def execAndAMem (ea : Addr) (s : State) : Result := .next (and8 .a (operandMem ea s) s)

/-- `AND_B_MEM` (R159): `B <- B AND MemRead(addr16, 1); SetZCG`. -/
def execAndBMem (ea : Addr) (s : State) : Result := .next (and8 .b (operandMem ea s) s)

/-- `AND_C_MEM` (R160): `C <- C AND MemRead(addr16, 1); SetZCG`. -/
def execAndCMem (ea : Addr) (s : State) : Result := .next (and8 .c (operandMem ea s) s)

/-- `AND_D_MEM` (R161): `D <- D AND MemRead(addr16, 1); SetZCG`. -/
def execAndDMem (ea : Addr) (s : State) : Result := .next (and8 .d (operandMem ea s) s)

end Sys2Proof.Machine
end

