-- ==== Sys2Proof/Machine/Deref.lean ====
section
/-! DEFINITION. Indirect loads: the meanings (spec/49_deref.md), on the state after the fetch of the instruction's bytes. -/

namespace Sys2Proof.Machine

/-- `DEREF_AB` (R245): `A <- MemRead({B, A}, 1)`, no flag, no stack access. -/
def execDerefAB (s : State) : Result := .next (derefPair .b .a s)

/-- `DEREF_CD` (R246): `C <- MemRead({D, C}, 1)`, no flag, no stack access. -/
def execDerefCD (s : State) : Result := .next (derefPair .d .c s)

end Sys2Proof.Machine
end

