-- ==== Sys2Proof/Machine/Jump.lean ====
section
/-! DEFINITION. Conditional jumps: the meanings (spec/47_jump.md), on the state after the fetch of the instruction's bytes. -/

namespace Sys2Proof.Machine

/-- `JZ` (R227): `if F[ZERO] = 1 then IP <- addr16`, no flag. -/
def execJz (t : Addr) (s : State) : Result := .next (jumpIf .zero t s)

/-- `JG` (R228): `if F[GREATER] = 1 then IP <- addr16`, no flag. -/
def execJg (t : Addr) (s : State) : Result := .next (jumpIf .greater t s)

/-- `JC` (R229): `if F[CARRY] = 1 then IP <- addr16`, no flag. -/
def execJc (t : Addr) (s : State) : Result := .next (jumpIf .carry t s)

end Sys2Proof.Machine
end

