-- ==== Sys2Proof/Machine/LoadStoreMove.lean ====
section
/-! DEFINITION. Load, store and move: the meanings (spec/46_load_store_move.md), on the state after the fetch of the instruction's bytes. -/

namespace Sys2Proof.Machine

/-- `LDB_A_IMM` (R194): `A <- imm8`, no flag. -/
def execLdbAImm (v : Byte) (s : State) : Result := .next (s.setReg .a (operandImm v))

/-- `LDB_B_IMM` (R195): `B <- imm8`, no flag. -/
def execLdbBImm (v : Byte) (s : State) : Result := .next (s.setReg .b (operandImm v))

/-- `LDB_C_IMM` (R196): `C <- imm8`, no flag. -/
def execLdbCImm (v : Byte) (s : State) : Result := .next (s.setReg .c (operandImm v))

/-- `LDB_D_IMM` (R197): `D <- imm8`, no flag. -/
def execLdbDImm (v : Byte) (s : State) : Result := .next (s.setReg .d (operandImm v))

/-- `LDB_A_MEM` (R198): `A <- MemRead(addr16, 1)`, no flag. -/
def execLdbAMem (ea : Addr) (s : State) : Result := .next (s.setReg .a (operandMem ea s))

/-- `LDB_B_MEM` (R199): `B <- MemRead(addr16, 1)`, no flag. -/
def execLdbBMem (ea : Addr) (s : State) : Result := .next (s.setReg .b (operandMem ea s))

/-- `LDB_C_MEM` (R200): `C <- MemRead(addr16, 1)`, no flag. -/
def execLdbCMem (ea : Addr) (s : State) : Result := .next (s.setReg .c (operandMem ea s))

/-- `LDB_D_MEM` (R201): `D <- MemRead(addr16, 1)`, no flag. -/
def execLdbDMem (ea : Addr) (s : State) : Result := .next (s.setReg .d (operandMem ea s))

/-- `STB_MEM_A` (R202): `MemWrite(addr16, 1, A)`, no flag. -/
def execStbMemA (ea : Addr) (s : State) : Result := .next (s.memWrite ea (operandReg .a s))

/-- `STB_MEM_B` (R203): `MemWrite(addr16, 1, B)`, no flag. -/
def execStbMemB (ea : Addr) (s : State) : Result := .next (s.memWrite ea (operandReg .b s))

/-- `STB_MEM_C` (R204): `MemWrite(addr16, 1, C)`, no flag. -/
def execStbMemC (ea : Addr) (s : State) : Result := .next (s.memWrite ea (operandReg .c s))

/-- `STB_MEM_D` (R205): `MemWrite(addr16, 1, D)`, no flag. -/
def execStbMemD (ea : Addr) (s : State) : Result := .next (s.memWrite ea (operandReg .d s))

/-- `STB_MEM_IMM` (R206): `MemWrite(addr16, 1, imm8)`, no flag. -/
def execStbMemImm (ea : Addr) (v : Byte) (s : State) : Result := .next (s.memWrite ea (operandImm v))

/-- `MVB_A_B` (R207): `A <- B`, no flag. -/
def execMvbAB (s : State) : Result := .next (s.setReg .a (operandReg .b s))

/-- `MVB_A_C` (R208): `A <- C`, no flag. -/
def execMvbAC (s : State) : Result := .next (s.setReg .a (operandReg .c s))

/-- `MVB_A_D` (R209): `A <- D`, no flag. -/
def execMvbAD (s : State) : Result := .next (s.setReg .a (operandReg .d s))

/-- `MVB_B_A` (R210): `B <- A`, no flag. -/
def execMvbBA (s : State) : Result := .next (s.setReg .b (operandReg .a s))

/-- `MVB_B_C` (R211): `B <- C`, no flag. -/
def execMvbBC (s : State) : Result := .next (s.setReg .b (operandReg .c s))

/-- `MVB_B_D` (R212): `B <- D`, no flag. -/
def execMvbBD (s : State) : Result := .next (s.setReg .b (operandReg .d s))

/-- `MVB_C_A` (R213): `C <- A`, no flag. -/
def execMvbCA (s : State) : Result := .next (s.setReg .c (operandReg .a s))

/-- `MVB_C_B` (R214): `C <- B`, no flag. -/
def execMvbCB (s : State) : Result := .next (s.setReg .c (operandReg .b s))

/-- `MVB_C_D` (R215): `C <- D`, no flag. -/
def execMvbCD (s : State) : Result := .next (s.setReg .c (operandReg .d s))

/-- `MVB_D_A` (R216): `D <- A`, no flag. -/
def execMvbDA (s : State) : Result := .next (s.setReg .d (operandReg .a s))

/-- `MVB_D_B` (R217): `D <- B`, no flag. -/
def execMvbDB (s : State) : Result := .next (s.setReg .d (operandReg .b s))

/-- `MVB_D_C` (R218): `D <- C`, no flag. -/
def execMvbDC (s : State) : Result := .next (s.setReg .d (operandReg .c s))

/-- `MVB_F_A` (R219): `F <- A`, all eight bits. -/
def execMvbFA (s : State) : Result := .next (s.setF (operandReg .a s))

/-- `MVB_F_B` (R220): `F <- B`, all eight bits. -/
def execMvbFB (s : State) : Result := .next (s.setF (operandReg .b s))

/-- `MVB_F_C` (R221): `F <- C`, all eight bits. -/
def execMvbFC (s : State) : Result := .next (s.setF (operandReg .c s))

/-- `MVB_F_D` (R222): `F <- D`, all eight bits. -/
def execMvbFD (s : State) : Result := .next (s.setF (operandReg .d s))

/-- `MVB_A_F` (R223): `A <- F`, all eight bits. -/
def execMvbAF (s : State) : Result := .next (s.setReg .a s.f)

/-- `MVB_B_F` (R224): `B <- F`, all eight bits. -/
def execMvbBF (s : State) : Result := .next (s.setReg .b s.f)

/-- `MVB_C_F` (R225): `C <- F`, all eight bits. -/
def execMvbCF (s : State) : Result := .next (s.setReg .c s.f)

/-- `MVB_D_F` (R226): `D <- F`, all eight bits. -/
def execMvbDF (s : State) : Result := .next (s.setReg .d s.f)

end Sys2Proof.Machine
end

