-- ==== Sys2Proof/Machine/NopHalt.lean ====
section
/-! DEFINITION. No-op and halt: the meanings (spec/40_nop_halt.md), on the state after the fetch of the instruction's bytes. -/

namespace Sys2Proof.Machine

/-- `NOP` (R100): Nothing but the fetch. -/
def execNop (s : State) : Result := .next s

/-- `BRK` (R101): `F[HALT] <- 1`. -/
def execBrk (s : State) : Result := .next (s.setF (setHalt s.f))

end Sys2Proof.Machine
end

