-- ==== Sys2Proof/Machine/NotShift.lean ====
section
/-! DEFINITION. Unary NOT and shifts: the meanings (spec/45_not_shift.md), on the state after the fetch of the instruction's bytes. -/

namespace Sys2Proof.Machine

/-- `NOT_A` (R182): `A <- 255 - A; SetZ`. -/
def execNotA (s : State) : Result := .next (not8 .a s)

/-- `NOT_B` (R183): `B <- 255 - B; SetZ`. -/
def execNotB (s : State) : Result := .next (not8 .b s)

/-- `NOT_C` (R184): `C <- 255 - C; SetZ`. -/
def execNotC (s : State) : Result := .next (not8 .c s)

/-- `NOT_D` (R185): `D <- 255 - D; SetZ`. -/
def execNotD (s : State) : Result := .next (not8 .d s)

/-- `SHL_A_IMM` (R186): `A <- A shifted left by n, 0 for n >= 8; SetZ`. -/
def execShlAImm (n : Byte) (s : State) : Result := .next (shl8 .a n s)

/-- `SHL_B_IMM` (R187): `B <- B shifted left by n, 0 for n >= 8; SetZ`. -/
def execShlBImm (n : Byte) (s : State) : Result := .next (shl8 .b n s)

/-- `SHL_C_IMM` (R188): `C <- C shifted left by n, 0 for n >= 8; SetZ`. -/
def execShlCImm (n : Byte) (s : State) : Result := .next (shl8 .c n s)

/-- `SHL_D_IMM` (R189): `D <- D shifted left by n, 0 for n >= 8; SetZ`. -/
def execShlDImm (n : Byte) (s : State) : Result := .next (shl8 .d n s)

/-- `SHR_A_IMM` (R190): `A <- A shifted right by n, 0 for n >= 8; SetZ`. -/
def execShrAImm (n : Byte) (s : State) : Result := .next (shr8 .a n s)

/-- `SHR_B_IMM` (R191): `B <- B shifted right by n, 0 for n >= 8; SetZ`. -/
def execShrBImm (n : Byte) (s : State) : Result := .next (shr8 .b n s)

/-- `SHR_C_IMM` (R192): `C <- C shifted right by n, 0 for n >= 8; SetZ`. -/
def execShrCImm (n : Byte) (s : State) : Result := .next (shr8 .c n s)

/-- `SHR_D_IMM` (R193): `D <- D shifted right by n, 0 for n >= 8; SetZ`. -/
def execShrDImm (n : Byte) (s : State) : Result := .next (shr8 .d n s)

end Sys2Proof.Machine
end

