-- ==== Sys2Proof/Machine/Or.lean ====
section
/-! DEFINITION. Bitwise OR: the meanings (spec/44_or.md), on the state after the fetch of the instruction's bytes. -/

namespace Sys2Proof.Machine

/-- `OR_A_B` (R162): `A <- A OR B; SetZCG`. -/
def execOrAB (s : State) : Result := .next (or8 .a (operandReg .b s) s)

/-- `OR_A_C` (R163): `A <- A OR C; SetZCG`. -/
def execOrAC (s : State) : Result := .next (or8 .a (operandReg .c s) s)

/-- `OR_A_D` (R164): `A <- A OR D; SetZCG`. -/
def execOrAD (s : State) : Result := .next (or8 .a (operandReg .d s) s)

/-- `OR_B_A` (R165): `B <- B OR A; SetZCG`. -/
def execOrBA (s : State) : Result := .next (or8 .b (operandReg .a s) s)

/-- `OR_B_C` (R166): `B <- B OR C; SetZCG`. -/
def execOrBC (s : State) : Result := .next (or8 .b (operandReg .c s) s)

/-- `OR_B_D` (R167): `B <- B OR D; SetZCG`. -/
def execOrBD (s : State) : Result := .next (or8 .b (operandReg .d s) s)

/-- `OR_C_A` (R168): `C <- C OR A; SetZCG`. -/
def execOrCA (s : State) : Result := .next (or8 .c (operandReg .a s) s)

/-- `OR_C_B` (R169): `C <- C OR B; SetZCG`. -/
def execOrCB (s : State) : Result := .next (or8 .c (operandReg .b s) s)

/-- `OR_C_D` (R170): `C <- C OR D; SetZCG`. -/
def execOrCD (s : State) : Result := .next (or8 .c (operandReg .d s) s)

/-- `OR_D_A` (R171): `D <- D OR A; SetZCG`. -/
def execOrDA (s : State) : Result := .next (or8 .d (operandReg .a s) s)

/-- `OR_D_B` (R172): `D <- D OR B; SetZCG`. -/
def execOrDB (s : State) : Result := .next (or8 .d (operandReg .b s) s)

/-- `OR_D_C` (R173): `D <- D OR C; SetZCG`. -/
def execOrDC (s : State) : Result := .next (or8 .d (operandReg .c s) s)

/-- `OR_A_IMM` (R174): `A <- A OR imm8; SetZCG`. -/
def execOrAImm (v : Byte) (s : State) : Result := .next (or8 .a (operandImm v) s)

/-- `OR_B_IMM` (R175): `B <- B OR imm8; SetZCG`. -/
def execOrBImm (v : Byte) (s : State) : Result := .next (or8 .b (operandImm v) s)

/-- `OR_C_IMM` (R176): `C <- C OR imm8; SetZCG`. -/
def execOrCImm (v : Byte) (s : State) : Result := .next (or8 .c (operandImm v) s)

/-- `OR_D_IMM` (R177): `D <- D OR imm8; SetZCG`. -/
def execOrDImm (v : Byte) (s : State) : Result := .next (or8 .d (operandImm v) s)

/-- `OR_A_MEM` (R178): `A <- A OR MemRead(addr16, 1); SetZCG`. -/
def execOrAMem (ea : Addr) (s : State) : Result := .next (or8 .a (operandMem ea s) s)

/-- `OR_B_MEM` (R179): `B <- B OR MemRead(addr16, 1); SetZCG`. -/
def execOrBMem (ea : Addr) (s : State) : Result := .next (or8 .b (operandMem ea s) s)

/-- `OR_C_MEM` (R180): `C <- C OR MemRead(addr16, 1); SetZCG`. -/
def execOrCMem (ea : Addr) (s : State) : Result := .next (or8 .c (operandMem ea s) s)

/-- `OR_D_MEM` (R181): `D <- D OR MemRead(addr16, 1); SetZCG`. -/
def execOrDMem (ea : Addr) (s : State) : Result := .next (or8 .d (operandMem ea s) s)

end Sys2Proof.Machine
end

