-- ==== Sys2Proof/Machine/Sbb.lean ====
section
/-! DEFINITION. Subtract with borrow: the meanings (spec/42_sbb.md), on the state after the fetch of the instruction's bytes. -/

namespace Sys2Proof.Machine

/-- `SBB_A_B` (R122): `A <- (A - B - Carry) mod 256; SetZCG`. -/
def execSbbAB (s : State) : Result := .next (sbb .a (operandReg .b s) s)

/-- `SBB_A_C` (R123): `A <- (A - C - Carry) mod 256; SetZCG`. -/
def execSbbAC (s : State) : Result := .next (sbb .a (operandReg .c s) s)

/-- `SBB_A_D` (R124): `A <- (A - D - Carry) mod 256; SetZCG`. -/
def execSbbAD (s : State) : Result := .next (sbb .a (operandReg .d s) s)

/-- `SBB_B_A` (R125): `B <- (B - A - Carry) mod 256; SetZCG`. -/
def execSbbBA (s : State) : Result := .next (sbb .b (operandReg .a s) s)

/-- `SBB_B_C` (R126): `B <- (B - C - Carry) mod 256; SetZCG`. -/
def execSbbBC (s : State) : Result := .next (sbb .b (operandReg .c s) s)

/-- `SBB_B_D` (R127): `B <- (B - D - Carry) mod 256; SetZCG`. -/
def execSbbBD (s : State) : Result := .next (sbb .b (operandReg .d s) s)

/-- `SBB_C_A` (R128): `C <- (C - A - Carry) mod 256; SetZCG`. -/
def execSbbCA (s : State) : Result := .next (sbb .c (operandReg .a s) s)

/-- `SBB_C_B` (R129): `C <- (C - B - Carry) mod 256; SetZCG`. -/
def execSbbCB (s : State) : Result := .next (sbb .c (operandReg .b s) s)

/-- `SBB_C_D` (R130): `C <- (C - D - Carry) mod 256; SetZCG`. -/
def execSbbCD (s : State) : Result := .next (sbb .c (operandReg .d s) s)

/-- `SBB_D_A` (R131): `D <- (D - A - Carry) mod 256; SetZCG`. -/
def execSbbDA (s : State) : Result := .next (sbb .d (operandReg .a s) s)

/-- `SBB_D_B` (R132): `D <- (D - B - Carry) mod 256; SetZCG`. -/
def execSbbDB (s : State) : Result := .next (sbb .d (operandReg .b s) s)

/-- `SBB_D_C` (R133): `D <- (D - C - Carry) mod 256; SetZCG`. -/
def execSbbDC (s : State) : Result := .next (sbb .d (operandReg .c s) s)

/-- `SBB_A_IMM` (R134): `A <- (A - imm8 - Carry) mod 256; SetZCG`. -/
def execSbbAImm (v : Byte) (s : State) : Result := .next (sbb .a (operandImm v) s)

/-- `SBB_B_IMM` (R135): `B <- (B - imm8 - Carry) mod 256; SetZCG`. -/
def execSbbBImm (v : Byte) (s : State) : Result := .next (sbb .b (operandImm v) s)

/-- `SBB_C_IMM` (R136): `C <- (C - imm8 - Carry) mod 256; SetZCG`. -/
def execSbbCImm (v : Byte) (s : State) : Result := .next (sbb .c (operandImm v) s)

/-- `SBB_D_IMM` (R137): `D <- (D - imm8 - Carry) mod 256; SetZCG`. -/
def execSbbDImm (v : Byte) (s : State) : Result := .next (sbb .d (operandImm v) s)

/-- `SBB_A_MEM` (R138): `A <- (A - MemRead(addr16, 1) - Carry) mod 256; SetZCG`. -/
def execSbbAMem (ea : Addr) (s : State) : Result := .next (sbb .a (operandMem ea s) s)

/-- `SBB_B_MEM` (R139): `B <- (B - MemRead(addr16, 1) - Carry) mod 256; SetZCG`. -/
def execSbbBMem (ea : Addr) (s : State) : Result := .next (sbb .b (operandMem ea s) s)

/-- `SBB_C_MEM` (R140): `C <- (C - MemRead(addr16, 1) - Carry) mod 256; SetZCG`. -/
def execSbbCMem (ea : Addr) (s : State) : Result := .next (sbb .c (operandMem ea s) s)

/-- `SBB_D_MEM` (R141): `D <- (D - MemRead(addr16, 1) - Carry) mod 256; SetZCG`. -/
def execSbbDMem (ea : Addr) (s : State) : Result := .next (sbb .d (operandMem ea s) s)

end Sys2Proof.Machine
end

