-- ==== Sys2Proof/Machine/Stack.lean ====
section
/-! DEFINITION. Push and pop: the meanings (spec/48_stack.md), on the state after the fetch of the instruction's bytes. -/

namespace Sys2Proof.Machine

/-- `PUSH_A` (R230): `push8(A)`. -/
def execPushA (s : State) : Result := .next (push8 (operandReg .a s) s)

/-- `PUSH_B` (R231): `push8(B)`. -/
def execPushB (s : State) : Result := .next (push8 (operandReg .b s) s)

/-- `PUSH_C` (R232): `push8(C)`. -/
def execPushC (s : State) : Result := .next (push8 (operandReg .c s) s)

/-- `PUSH_D` (R233): `push8(D)`. -/
def execPushD (s : State) : Result := .next (push8 (operandReg .d s) s)

/-- `PUSH_F` (R234): `push8(F)`. -/
def execPushF (s : State) : Result := .next (push8 s.f s)

/-- `POP_A` (R235): `A <- pop8()`, no flag. -/
def execPopA (s : State) : Result := .next (popReg .a s)

/-- `POP_B` (R236): `B <- pop8()`, no flag. -/
def execPopB (s : State) : Result := .next (popReg .b s)

/-- `POP_C` (R237): `C <- pop8()`, no flag. -/
def execPopC (s : State) : Result := .next (popReg .c s)

/-- `POP_D` (R238): `D <- pop8()`, no flag. -/
def execPopD (s : State) : Result := .next (popReg .d s)

/-- `POP_F` (R239): `F <- pop8()`, all eight bits. -/
def execPopF (s : State) : Result := .next ((pop8 s).2.setF (pop8 s).1)

/-- `PUSH_IP` (R240): `push16(IP)`, the address after this opcode (D14). -/
def execPushIp (s : State) : Result := .next (push16 s.ip s)

/-- `POP_IP` (R241): `IP <- pop16()`. -/
def execPopIp (s : State) : Result := .next ((pop16 s).2.setIp (pop16 s).1)

/-- `POP_DISCARD` (R242): `pop8()`, the byte ignored. -/
def execPopDiscard (s : State) : Result := .next (pop8 s).2

/-- `PUSH_IMM` (R243): `push8(imm8)`. -/
def execPushImm (v : Byte) (s : State) : Result := .next (push8 (operandImm v) s)

/-- `PUSH_MEM` (R244): `push8(MemRead(zext_16(addr8), 1))`. -/
def execPushMem (z : Byte) (s : State) : Result := .next (push8 (operandZMem z s) s)

end Sys2Proof.Machine
end

