-- ==== Sys2Proof/Machine/Dispatch.lean ====
section
/-! DEFINITION. One arm per instruction, each one direct call of its meaning. -/

namespace Sys2Proof.Machine

def exec (i : Instr) (s : State) : Host.Outcome State Fault Refusal :=
  match i with
  | .nop => Sys2Proof.Machine.execNop s
  | .brk => Sys2Proof.Machine.execBrk s
  | .adcAB => Sys2Proof.Machine.execAdcAB s
  | .adcAC => Sys2Proof.Machine.execAdcAC s
  | .adcAD => Sys2Proof.Machine.execAdcAD s
  | .adcBA => Sys2Proof.Machine.execAdcBA s
  | .adcBC => Sys2Proof.Machine.execAdcBC s
  | .adcBD => Sys2Proof.Machine.execAdcBD s
  | .adcCA => Sys2Proof.Machine.execAdcCA s
  | .adcCB => Sys2Proof.Machine.execAdcCB s
  | .adcCD => Sys2Proof.Machine.execAdcCD s
  | .adcDA => Sys2Proof.Machine.execAdcDA s
  | .adcDB => Sys2Proof.Machine.execAdcDB s
  | .adcDC => Sys2Proof.Machine.execAdcDC s
  | .adcAImm v => Sys2Proof.Machine.execAdcAImm v s
  | .adcBImm v => Sys2Proof.Machine.execAdcBImm v s
  | .adcCImm v => Sys2Proof.Machine.execAdcCImm v s
  | .adcDImm v => Sys2Proof.Machine.execAdcDImm v s
  | .adcAMem ea => Sys2Proof.Machine.execAdcAMem ea s
  | .adcBMem ea => Sys2Proof.Machine.execAdcBMem ea s
  | .adcCMem ea => Sys2Proof.Machine.execAdcCMem ea s
  | .adcDMem ea => Sys2Proof.Machine.execAdcDMem ea s
  | .sbbAB => Sys2Proof.Machine.execSbbAB s
  | .sbbAC => Sys2Proof.Machine.execSbbAC s
  | .sbbAD => Sys2Proof.Machine.execSbbAD s
  | .sbbBA => Sys2Proof.Machine.execSbbBA s
  | .sbbBC => Sys2Proof.Machine.execSbbBC s
  | .sbbBD => Sys2Proof.Machine.execSbbBD s
  | .sbbCA => Sys2Proof.Machine.execSbbCA s
  | .sbbCB => Sys2Proof.Machine.execSbbCB s
  | .sbbCD => Sys2Proof.Machine.execSbbCD s
  | .sbbDA => Sys2Proof.Machine.execSbbDA s
  | .sbbDB => Sys2Proof.Machine.execSbbDB s
  | .sbbDC => Sys2Proof.Machine.execSbbDC s
  | .sbbAImm v => Sys2Proof.Machine.execSbbAImm v s
  | .sbbBImm v => Sys2Proof.Machine.execSbbBImm v s
  | .sbbCImm v => Sys2Proof.Machine.execSbbCImm v s
  | .sbbDImm v => Sys2Proof.Machine.execSbbDImm v s
  | .sbbAMem ea => Sys2Proof.Machine.execSbbAMem ea s
  | .sbbBMem ea => Sys2Proof.Machine.execSbbBMem ea s
  | .sbbCMem ea => Sys2Proof.Machine.execSbbCMem ea s
  | .sbbDMem ea => Sys2Proof.Machine.execSbbDMem ea s
  | .andAB => Sys2Proof.Machine.execAndAB s
  | .andAC => Sys2Proof.Machine.execAndAC s
  | .andAD => Sys2Proof.Machine.execAndAD s
  | .andBA => Sys2Proof.Machine.execAndBA s
  | .andBC => Sys2Proof.Machine.execAndBC s
  | .andBD => Sys2Proof.Machine.execAndBD s
  | .andCA => Sys2Proof.Machine.execAndCA s
  | .andCB => Sys2Proof.Machine.execAndCB s
  | .andCD => Sys2Proof.Machine.execAndCD s
  | .andDA => Sys2Proof.Machine.execAndDA s
  | .andDB => Sys2Proof.Machine.execAndDB s
  | .andDC => Sys2Proof.Machine.execAndDC s
  | .andAImm v => Sys2Proof.Machine.execAndAImm v s
  | .andBImm v => Sys2Proof.Machine.execAndBImm v s
  | .andCImm v => Sys2Proof.Machine.execAndCImm v s
  | .andDImm v => Sys2Proof.Machine.execAndDImm v s
  | .andAMem ea => Sys2Proof.Machine.execAndAMem ea s
  | .andBMem ea => Sys2Proof.Machine.execAndBMem ea s
  | .andCMem ea => Sys2Proof.Machine.execAndCMem ea s
  | .andDMem ea => Sys2Proof.Machine.execAndDMem ea s
  | .orAB => Sys2Proof.Machine.execOrAB s
  | .orAC => Sys2Proof.Machine.execOrAC s
  | .orAD => Sys2Proof.Machine.execOrAD s
  | .orBA => Sys2Proof.Machine.execOrBA s
  | .orBC => Sys2Proof.Machine.execOrBC s
  | .orBD => Sys2Proof.Machine.execOrBD s
  | .orCA => Sys2Proof.Machine.execOrCA s
  | .orCB => Sys2Proof.Machine.execOrCB s
  | .orCD => Sys2Proof.Machine.execOrCD s
  | .orDA => Sys2Proof.Machine.execOrDA s
  | .orDB => Sys2Proof.Machine.execOrDB s
  | .orDC => Sys2Proof.Machine.execOrDC s
  | .orAImm v => Sys2Proof.Machine.execOrAImm v s
  | .orBImm v => Sys2Proof.Machine.execOrBImm v s
  | .orCImm v => Sys2Proof.Machine.execOrCImm v s
  | .orDImm v => Sys2Proof.Machine.execOrDImm v s
  | .orAMem ea => Sys2Proof.Machine.execOrAMem ea s
  | .orBMem ea => Sys2Proof.Machine.execOrBMem ea s
  | .orCMem ea => Sys2Proof.Machine.execOrCMem ea s
  | .orDMem ea => Sys2Proof.Machine.execOrDMem ea s
  | .notA => Sys2Proof.Machine.execNotA s
  | .notB => Sys2Proof.Machine.execNotB s
  | .notC => Sys2Proof.Machine.execNotC s
  | .notD => Sys2Proof.Machine.execNotD s
  | .shlAImm n => Sys2Proof.Machine.execShlAImm n s
  | .shlBImm n => Sys2Proof.Machine.execShlBImm n s
  | .shlCImm n => Sys2Proof.Machine.execShlCImm n s
  | .shlDImm n => Sys2Proof.Machine.execShlDImm n s
  | .shrAImm n => Sys2Proof.Machine.execShrAImm n s
  | .shrBImm n => Sys2Proof.Machine.execShrBImm n s
  | .shrCImm n => Sys2Proof.Machine.execShrCImm n s
  | .shrDImm n => Sys2Proof.Machine.execShrDImm n s
  | .ldbAImm v => Sys2Proof.Machine.execLdbAImm v s
  | .ldbBImm v => Sys2Proof.Machine.execLdbBImm v s
  | .ldbCImm v => Sys2Proof.Machine.execLdbCImm v s
  | .ldbDImm v => Sys2Proof.Machine.execLdbDImm v s
  | .ldbAMem ea => Sys2Proof.Machine.execLdbAMem ea s
  | .ldbBMem ea => Sys2Proof.Machine.execLdbBMem ea s
  | .ldbCMem ea => Sys2Proof.Machine.execLdbCMem ea s
  | .ldbDMem ea => Sys2Proof.Machine.execLdbDMem ea s
  | .stbMemA ea => Sys2Proof.Machine.execStbMemA ea s
  | .stbMemB ea => Sys2Proof.Machine.execStbMemB ea s
  | .stbMemC ea => Sys2Proof.Machine.execStbMemC ea s
  | .stbMemD ea => Sys2Proof.Machine.execStbMemD ea s
  | .stbMemImm ea v => Sys2Proof.Machine.execStbMemImm ea v s
  | .mvbAB => Sys2Proof.Machine.execMvbAB s
  | .mvbAC => Sys2Proof.Machine.execMvbAC s
  | .mvbAD => Sys2Proof.Machine.execMvbAD s
  | .mvbBA => Sys2Proof.Machine.execMvbBA s
  | .mvbBC => Sys2Proof.Machine.execMvbBC s
  | .mvbBD => Sys2Proof.Machine.execMvbBD s
  | .mvbCA => Sys2Proof.Machine.execMvbCA s
  | .mvbCB => Sys2Proof.Machine.execMvbCB s
  | .mvbCD => Sys2Proof.Machine.execMvbCD s
  | .mvbDA => Sys2Proof.Machine.execMvbDA s
  | .mvbDB => Sys2Proof.Machine.execMvbDB s
  | .mvbDC => Sys2Proof.Machine.execMvbDC s
  | .mvbFA => Sys2Proof.Machine.execMvbFA s
  | .mvbFB => Sys2Proof.Machine.execMvbFB s
  | .mvbFC => Sys2Proof.Machine.execMvbFC s
  | .mvbFD => Sys2Proof.Machine.execMvbFD s
  | .mvbAF => Sys2Proof.Machine.execMvbAF s
  | .mvbBF => Sys2Proof.Machine.execMvbBF s
  | .mvbCF => Sys2Proof.Machine.execMvbCF s
  | .mvbDF => Sys2Proof.Machine.execMvbDF s
  | .jz t => Sys2Proof.Machine.execJz t s
  | .jg t => Sys2Proof.Machine.execJg t s
  | .jc t => Sys2Proof.Machine.execJc t s
  | .pushA => Sys2Proof.Machine.execPushA s
  | .pushB => Sys2Proof.Machine.execPushB s
  | .pushC => Sys2Proof.Machine.execPushC s
  | .pushD => Sys2Proof.Machine.execPushD s
  | .pushF => Sys2Proof.Machine.execPushF s
  | .popA => Sys2Proof.Machine.execPopA s
  | .popB => Sys2Proof.Machine.execPopB s
  | .popC => Sys2Proof.Machine.execPopC s
  | .popD => Sys2Proof.Machine.execPopD s
  | .popF => Sys2Proof.Machine.execPopF s
  | .pushIp => Sys2Proof.Machine.execPushIp s
  | .popIp => Sys2Proof.Machine.execPopIp s
  | .popDiscard => Sys2Proof.Machine.execPopDiscard s
  | .pushImm v => Sys2Proof.Machine.execPushImm v s
  | .pushMem z => Sys2Proof.Machine.execPushMem z s
  | .derefAB => Sys2Proof.Machine.execDerefAB s
  | .derefCD => Sys2Proof.Machine.execDerefCD s

end Sys2Proof.Machine
end

