-- ==== Sys2Proof/WellFormed.lean ====
section
/-! DEFINITION. Which instruction terms, and which byte strings for them, are well formed.

The operands of a constructor are exactly the operand bytes of its format (R80), "every bit of every operand byte is
significant" (R87) and "operand bytes can have any value and are never illegal" (R86): no term of `Instr` is ill
formed. What can be wrong is a byte string: too short or too long for the instruction it is offered for. -/

namespace Sys2Proof

/-- Every operand value is legal (R86, R87), so every term is well formed. -/
def Instr.wellFormed (_ : Instr) : Bool := true

/-- `bs` has as many bytes as `i` has (R80, column "length" of R85). -/
def Instr.fits (i : Instr) (bs : List Byte) : Bool := bs.length == i.length

end Sys2Proof
end

