-- ==== Sys2Proof/Decode.lean ====
section
/-! DEFINITION. The opcode map (spec/30_encoding.md R85), the decoder over bytes (total; it rejects by name), the encoder,
and the words of the opcode table.

`OPCODE_MAP` and `STB_IMM_ORDER` stand at their defaults (D1, D7; logs 3 and 5): opcode = rule number - 100, and the
address bytes of `STB_MEM_IMM` come before its immediate. -/

namespace Sys2Proof

open Sys2Proof.Machine

/-- A row of the opcode map: its format, and the instruction it makes of the operand values (R80, R85). -/
inductive Template where
  | f0 (i : Instr)
  | fi (mk : Byte → Instr)
  | fz (mk : Byte → Instr)
  | fa (mk : Addr → Instr)
  | fai (mk : Addr → Byte → Instr)

/-- Opcodes `0x00` to `0x01`: no-op and halt (spec/40_nop_halt.md; R85). -/
def rowsNopHalt : List Template :=
  [.f0 .nop, .f0 .brk]

/-- Opcodes `0x02` to `0x15`: add with carry (spec/41_adc.md; R85). -/
def rowsAdc : List Template :=
  [.f0 .adcAB, .f0 .adcAC, .f0 .adcAD, .f0 .adcBA, .f0 .adcBC, .f0 .adcBD, .f0 .adcCA, .f0 .adcCB, .f0 .adcCD,
   .f0 .adcDA, .f0 .adcDB, .f0 .adcDC, .fi .adcAImm, .fi .adcBImm, .fi .adcCImm, .fi .adcDImm, .fa .adcAMem,
   .fa .adcBMem, .fa .adcCMem, .fa .adcDMem]

/-- Opcodes `0x16` to `0x29`: subtract with borrow (spec/42_sbb.md; R85). -/
def rowsSbb : List Template :=
  [.f0 .sbbAB, .f0 .sbbAC, .f0 .sbbAD, .f0 .sbbBA, .f0 .sbbBC, .f0 .sbbBD, .f0 .sbbCA, .f0 .sbbCB, .f0 .sbbCD,
   .f0 .sbbDA, .f0 .sbbDB, .f0 .sbbDC, .fi .sbbAImm, .fi .sbbBImm, .fi .sbbCImm, .fi .sbbDImm, .fa .sbbAMem,
   .fa .sbbBMem, .fa .sbbCMem, .fa .sbbDMem]

/-- Opcodes `0x2A` to `0x3D`: bitwise and (spec/43_and.md; R85). -/
def rowsAnd : List Template :=
  [.f0 .andAB, .f0 .andAC, .f0 .andAD, .f0 .andBA, .f0 .andBC, .f0 .andBD, .f0 .andCA, .f0 .andCB, .f0 .andCD,
   .f0 .andDA, .f0 .andDB, .f0 .andDC, .fi .andAImm, .fi .andBImm, .fi .andCImm, .fi .andDImm, .fa .andAMem,
   .fa .andBMem, .fa .andCMem, .fa .andDMem]

/-- Opcodes `0x3E` to `0x51`: bitwise or (spec/44_or.md; R85). -/
def rowsOr : List Template :=
  [.f0 .orAB, .f0 .orAC, .f0 .orAD, .f0 .orBA, .f0 .orBC, .f0 .orBD, .f0 .orCA, .f0 .orCB, .f0 .orCD, .f0 .orDA,
   .f0 .orDB, .f0 .orDC, .fi .orAImm, .fi .orBImm, .fi .orCImm, .fi .orDImm, .fa .orAMem, .fa .orBMem, .fa .orCMem,
   .fa .orDMem]

/-- Opcodes `0x52` to `0x5D`: unary not and shifts (spec/45_not_shift.md; R85). -/
def rowsNotShift : List Template :=
  [.f0 .notA, .f0 .notB, .f0 .notC, .f0 .notD, .fi .shlAImm, .fi .shlBImm, .fi .shlCImm, .fi .shlDImm, .fi .shrAImm,
   .fi .shrBImm, .fi .shrCImm, .fi .shrDImm]

/-- Opcodes `0x5E` to `0x7E`: load, store and move (spec/46_load_store_move.md; R85). -/
def rowsLoadStoreMove : List Template :=
  [.fi .ldbAImm, .fi .ldbBImm, .fi .ldbCImm, .fi .ldbDImm, .fa .ldbAMem, .fa .ldbBMem, .fa .ldbCMem, .fa .ldbDMem,
   .fa .stbMemA, .fa .stbMemB, .fa .stbMemC, .fa .stbMemD, .fai .stbMemImm, .f0 .mvbAB, .f0 .mvbAC, .f0 .mvbAD,
   .f0 .mvbBA, .f0 .mvbBC, .f0 .mvbBD, .f0 .mvbCA, .f0 .mvbCB, .f0 .mvbCD, .f0 .mvbDA, .f0 .mvbDB, .f0 .mvbDC,
   .f0 .mvbFA, .f0 .mvbFB, .f0 .mvbFC, .f0 .mvbFD, .f0 .mvbAF, .f0 .mvbBF, .f0 .mvbCF, .f0 .mvbDF]

/-- Opcodes `0x7F` to `0x81`: conditional jumps (spec/47_jump.md; R85). -/
def rowsJump : List Template :=
  [.fa .jz, .fa .jg, .fa .jc]

/-- Opcodes `0x82` to `0x90`: push and pop (spec/48_stack.md; R85). -/
def rowsStack : List Template :=
  [.f0 .pushA, .f0 .pushB, .f0 .pushC, .f0 .pushD, .f0 .pushF, .f0 .popA, .f0 .popB, .f0 .popC, .f0 .popD, .f0 .popF,
   .f0 .pushIp, .f0 .popIp, .f0 .popDiscard, .fi .pushImm, .fz .pushMem]

/-- Opcodes `0x91` to `0x92`: indirect loads (spec/49_deref.md; R85). -/
def rowsDeref : List Template :=
  [.f0 .derefAB, .f0 .derefCD]

/-- The rows of `OPCODE_MAP` in opcode order, from `0x00` (R85, D1; log 3). -/
def opcodeRows : List Template :=
  rowsNopHalt ++ rowsAdc ++ rowsSbb ++ rowsAnd ++ rowsOr ++
    rowsNotShift ++ rowsLoadStoreMove ++ rowsJump ++ rowsStack ++ rowsDeref

/-- `OPCODE_MAP`: the row of an opcode byte, none for an illegal one (R85, R86). -/
def opcodeMap (op : Byte) : Option Template := opcodeRows[op.toNat]?

/-- Why a byte string is not read as an instruction. -/
inductive DecodeError where
  /-- There is no byte at all. -/
  | noBytes
  /-- The first byte is in no row of the map (R86). -/
  | illegalOpcode (op : Byte)
  /-- The opcode is defined and its operand bytes are not all there. -/
  | truncated (op : Byte)
deriving DecidableEq, Repr

/-- What the decoder answers. -/
inductive Decoded where
  /-- An instruction, and the bytes after it. -/
  | instr (i : Instr) (rest : List Byte)
  /-- Rejected, by name. -/
  | rejected (e : DecodeError)
deriving DecidableEq, Repr

/-- Read a row's operand bytes, 16-bit quantities low byte first (R54, R80, R82). -/
def readOperands (op : Byte) (t : Template) (bs : List Byte) : Decoded :=
  match t, bs with
  | .f0 i, rest => .instr i rest
  | .fi mk, v :: rest => .instr (mk v) rest
  | .fz mk, z :: rest => .instr (mk z) rest
  | .fa mk, lo :: hi :: rest => .instr (mk (joinBytes hi lo)) rest
  | .fai mk, lo :: hi :: v :: rest => .instr (mk (joinBytes hi lo) v) rest
  | .fi _, [] => .rejected (.truncated op)
  | .fz _, [] => .rejected (.truncated op)
  | .fa _, [] => .rejected (.truncated op)
  | .fa _, [_] => .rejected (.truncated op)
  | .fai _, [] => .rejected (.truncated op)
  | .fai _, [_] => .rejected (.truncated op)
  | .fai _, [_, _] => .rejected (.truncated op)

/-- The decoder: the opcode byte alone tells the format (R80, R87). -/
def decode : List Byte → Decoded
  | [] => .rejected .noBytes
  | op :: bs =>
    match opcodeMap op with
    | none => .rejected (.illegalOpcode op)
    | some t => readOperands op t bs

/-- The bytes of a 16-bit operand, low byte first (R54, R80). -/
def addrBytes (w : Addr) : List Byte := [lowByte w, highByte w]

/-- The bytes of an instruction (R80, R85). -/
def encode : Instr → List Byte
  | .nop => [0x00#8]
  | .brk => [0x01#8]
  | .adcAB => [0x02#8]
  | .adcAC => [0x03#8]
  | .adcAD => [0x04#8]
  | .adcBA => [0x05#8]
  | .adcBC => [0x06#8]
  | .adcBD => [0x07#8]
  | .adcCA => [0x08#8]
  | .adcCB => [0x09#8]
  | .adcCD => [0x0A#8]
  | .adcDA => [0x0B#8]
  | .adcDB => [0x0C#8]
  | .adcDC => [0x0D#8]
  | .adcAImm v => [0x0E#8, v]
  | .adcBImm v => [0x0F#8, v]
  | .adcCImm v => [0x10#8, v]
  | .adcDImm v => [0x11#8, v]
  | .adcAMem ea => 0x12#8 :: addrBytes ea
  | .adcBMem ea => 0x13#8 :: addrBytes ea
  | .adcCMem ea => 0x14#8 :: addrBytes ea
  | .adcDMem ea => 0x15#8 :: addrBytes ea
  | .sbbAB => [0x16#8]
  | .sbbAC => [0x17#8]
  | .sbbAD => [0x18#8]
  | .sbbBA => [0x19#8]
  | .sbbBC => [0x1A#8]
  | .sbbBD => [0x1B#8]
  | .sbbCA => [0x1C#8]
  | .sbbCB => [0x1D#8]
  | .sbbCD => [0x1E#8]
  | .sbbDA => [0x1F#8]
  | .sbbDB => [0x20#8]
  | .sbbDC => [0x21#8]
  | .sbbAImm v => [0x22#8, v]
  | .sbbBImm v => [0x23#8, v]
  | .sbbCImm v => [0x24#8, v]
  | .sbbDImm v => [0x25#8, v]
  | .sbbAMem ea => 0x26#8 :: addrBytes ea
  | .sbbBMem ea => 0x27#8 :: addrBytes ea
  | .sbbCMem ea => 0x28#8 :: addrBytes ea
  | .sbbDMem ea => 0x29#8 :: addrBytes ea
  | .andAB => [0x2A#8]
  | .andAC => [0x2B#8]
  | .andAD => [0x2C#8]
  | .andBA => [0x2D#8]
  | .andBC => [0x2E#8]
  | .andBD => [0x2F#8]
  | .andCA => [0x30#8]
  | .andCB => [0x31#8]
  | .andCD => [0x32#8]
  | .andDA => [0x33#8]
  | .andDB => [0x34#8]
  | .andDC => [0x35#8]
  | .andAImm v => [0x36#8, v]
  | .andBImm v => [0x37#8, v]
  | .andCImm v => [0x38#8, v]
  | .andDImm v => [0x39#8, v]
  | .andAMem ea => 0x3A#8 :: addrBytes ea
  | .andBMem ea => 0x3B#8 :: addrBytes ea
  | .andCMem ea => 0x3C#8 :: addrBytes ea
  | .andDMem ea => 0x3D#8 :: addrBytes ea
  | .orAB => [0x3E#8]
  | .orAC => [0x3F#8]
  | .orAD => [0x40#8]
  | .orBA => [0x41#8]
  | .orBC => [0x42#8]
  | .orBD => [0x43#8]
  | .orCA => [0x44#8]
  | .orCB => [0x45#8]
  | .orCD => [0x46#8]
  | .orDA => [0x47#8]
  | .orDB => [0x48#8]
  | .orDC => [0x49#8]
  | .orAImm v => [0x4A#8, v]
  | .orBImm v => [0x4B#8, v]
  | .orCImm v => [0x4C#8, v]
  | .orDImm v => [0x4D#8, v]
  | .orAMem ea => 0x4E#8 :: addrBytes ea
  | .orBMem ea => 0x4F#8 :: addrBytes ea
  | .orCMem ea => 0x50#8 :: addrBytes ea
  | .orDMem ea => 0x51#8 :: addrBytes ea
  | .notA => [0x52#8]
  | .notB => [0x53#8]
  | .notC => [0x54#8]
  | .notD => [0x55#8]
  | .shlAImm n => [0x56#8, n]
  | .shlBImm n => [0x57#8, n]
  | .shlCImm n => [0x58#8, n]
  | .shlDImm n => [0x59#8, n]
  | .shrAImm n => [0x5A#8, n]
  | .shrBImm n => [0x5B#8, n]
  | .shrCImm n => [0x5C#8, n]
  | .shrDImm n => [0x5D#8, n]
  | .ldbAImm v => [0x5E#8, v]
  | .ldbBImm v => [0x5F#8, v]
  | .ldbCImm v => [0x60#8, v]
  | .ldbDImm v => [0x61#8, v]
  | .ldbAMem ea => 0x62#8 :: addrBytes ea
  | .ldbBMem ea => 0x63#8 :: addrBytes ea
  | .ldbCMem ea => 0x64#8 :: addrBytes ea
  | .ldbDMem ea => 0x65#8 :: addrBytes ea
  | .stbMemA ea => 0x66#8 :: addrBytes ea
  | .stbMemB ea => 0x67#8 :: addrBytes ea
  | .stbMemC ea => 0x68#8 :: addrBytes ea
  | .stbMemD ea => 0x69#8 :: addrBytes ea
  | .stbMemImm ea v => 0x6A#8 :: (addrBytes ea ++ [v])
  | .mvbAB => [0x6B#8]
  | .mvbAC => [0x6C#8]
  | .mvbAD => [0x6D#8]
  | .mvbBA => [0x6E#8]
  | .mvbBC => [0x6F#8]
  | .mvbBD => [0x70#8]
  | .mvbCA => [0x71#8]
  | .mvbCB => [0x72#8]
  | .mvbCD => [0x73#8]
  | .mvbDA => [0x74#8]
  | .mvbDB => [0x75#8]
  | .mvbDC => [0x76#8]
  | .mvbFA => [0x77#8]
  | .mvbFB => [0x78#8]
  | .mvbFC => [0x79#8]
  | .mvbFD => [0x7A#8]
  | .mvbAF => [0x7B#8]
  | .mvbBF => [0x7C#8]
  | .mvbCF => [0x7D#8]
  | .mvbDF => [0x7E#8]
  | .jz t => 0x7F#8 :: addrBytes t
  | .jg t => 0x80#8 :: addrBytes t
  | .jc t => 0x81#8 :: addrBytes t
  | .pushA => [0x82#8]
  | .pushB => [0x83#8]
  | .pushC => [0x84#8]
  | .pushD => [0x85#8]
  | .pushF => [0x86#8]
  | .popA => [0x87#8]
  | .popB => [0x88#8]
  | .popC => [0x89#8]
  | .popD => [0x8A#8]
  | .popF => [0x8B#8]
  | .pushIp => [0x8C#8]
  | .popIp => [0x8D#8]
  | .popDiscard => [0x8E#8]
  | .pushImm v => [0x8F#8, v]
  | .pushMem z => [0x90#8, z]
  | .derefAB => [0x91#8]
  | .derefCD => [0x92#8]

/-- Byte `k` of a table word of `nbits` bits; every bit above is 0. -/
def tableWordByte (nbits w k : Nat) : Byte := BitVec.ofNat 8 (w % 2 ^ nbits / 256 ^ k)

/-- The bytes in memory of a table word (its first byte is bits 7..0), up to the longest instruction. -/
def tableWordBytes (nbits w : Nat) : List Byte :=
  [tableWordByte nbits w 0, tableWordByte nbits w 1, tableWordByte nbits w 2, tableWordByte nbits w 3]

/-- The instruction the decoder reads from a table word, none where it rejects. -/
def decodeTableWord (nbits w : Nat) : Option Instr :=
  match decode (tableWordBytes nbits w) with
  | .instr i _ => some i
  | .rejected _ => none

end Sys2Proof
end

