-- ==== Sys2Proof/Machine/Fetch.lean ====
section
/-! DEFINITION. Fetching and decoding the next instruction (spec/30_encoding.md R81 to R84). -/

namespace Sys2Proof.Machine

/-- Fetch the operand bytes that a row of the opcode map calls for, in stream order (R80, R83). -/
def fetchOperands (t : Template) (s : State) : Instr × State :=
  match t with
  | .f0 i => (i, s)
  | .fi mk => let v := fetch8 s; (mk v.1, v.2)
  | .fz mk => let z := fetch8 s; (mk z.1, z.2)
  | .fa mk => let ea := fetch16 s; (mk ea.1, ea.2)
  | .fai mk => let ea := fetch16 s; let v := fetch8 ea.2; (mk ea.1 v.1, v.2)

/-- What the front half of a step finds at `IP`. -/
inductive Fetched where
  /-- An instruction, and the state with `INSN` latched and `IP` past its bytes. -/
  | instr (i : Instr) (s : State)
  /-- A byte that is no opcode. -/
  | illegal (op : Byte)
deriving DecidableEq, Repr

/-- `op <- MemRead(IP, 1)`; if it is in the opcode map, latch it, advance `IP` and fetch the operands (R84). Operand
bytes are not latched (R38). -/
def fetchInstr (s : State) : Fetched :=
  let op := s.memRead s.ip
  match opcodeMap op with
  | none => .illegal op
  | some t =>
    let p := fetchOperands t ((s.latch op).setIp (s.ip + 1))
    .instr p.1 p.2

end Sys2Proof.Machine
end

