-- ==== Sys2Proof/Machine/Step.lean ====
section
/-! DEFINITION. One step (spec/30_encoding.md R84; spec/10_state.md R36). -/

namespace Sys2Proof.Machine

/-- The step operation (R84): in Running, fetch and run one instruction, or take `IllegalOpcode` (R251); in Halted or
Faulted a step request does nothing (R36, D5; log 7). -/
def step (s : State) : Host.Outcome State Fault Refusal :=
  match s.runState with
  | .running =>
    match fetchInstr s with
    | .instr i s' => exec i s'
    | .illegal op => .next (raiseIllegalOpcode op s)
  | .halted => .next s
  | .faulted => .next s

/-- `s` with the instruction whose bits are `w` stored at `IP`, four bytes, those above `nbits` zero: the load of a
program from outside (R70; log 10). Nothing else changes; a Halted or Faulted `s` stays so. -/
def State.withFetchWord (s : State) (nbits w : Nat) : State := s.storeBytes s.ip (tableWordBytes nbits w)

end Sys2Proof.Machine
end

