-- ==== Sys2Proof/Machine/Bus.lean ====
section
/-! DEFINITION. The memory interface as hardware: the byte transactions of a step, in order (spec/20_memory.md R68). They are a
function of the state before the step; State does not record them. -/

namespace Sys2Proof.Machine

/-- One byte transaction: a 16-bit address, a direction, 8 data bits (R68). -/
inductive Transaction where
  /-- `MemRead(a, 1)` answered `v`. -/
  | read (a : Addr) (v : Byte)
  /-- `MemWrite(a, 1, v)`. -/
  | write (a : Addr) (v : Byte)
deriving DecidableEq, Repr

/-- A read of `a` in `s`. -/
def readOf (s : State) (a : Addr) : Transaction := .read a (s.memRead a)

/-- The data and stack accesses of an instruction, in the order its pseudocode lists them (R63, R64, R68); `s` is the state
after the fetch. -/
def dataAccesses (i : Instr) (s : State) : List Transaction :=
  match i with
  | .nop | .brk | .adcAB | .adcAC | .adcAD | .adcBA | .adcBC | .adcBD | .adcCA | .adcCB | .adcCD | .adcDA | .adcDB
  | .adcDC | .adcAImm _ | .adcBImm _ | .adcCImm _ | .adcDImm _ | .sbbAB | .sbbAC | .sbbAD | .sbbBA | .sbbBC
  | .sbbBD | .sbbCA | .sbbCB | .sbbCD | .sbbDA | .sbbDB | .sbbDC | .sbbAImm _ | .sbbBImm _ | .sbbCImm _
  | .sbbDImm _ | .andAB | .andAC | .andAD | .andBA | .andBC | .andBD | .andCA | .andCB | .andCD | .andDA | .andDB
  | .andDC | .andAImm _ | .andBImm _ | .andCImm _ | .andDImm _ | .orAB | .orAC | .orAD | .orBA | .orBC | .orBD
  | .orCA | .orCB | .orCD | .orDA | .orDB | .orDC | .orAImm _ | .orBImm _ | .orCImm _ | .orDImm _ | .notA | .notB
  | .notC | .notD | .shlAImm _ | .shlBImm _ | .shlCImm _ | .shlDImm _ | .shrAImm _ | .shrBImm _ | .shrCImm _
  | .shrDImm _ | .ldbAImm _ | .ldbBImm _ | .ldbCImm _ | .ldbDImm _ | .mvbAB | .mvbAC | .mvbAD | .mvbBA | .mvbBC
  | .mvbBD | .mvbCA | .mvbCB | .mvbCD | .mvbDA | .mvbDB | .mvbDC | .mvbFA | .mvbFB | .mvbFC | .mvbFD | .mvbAF
  | .mvbBF | .mvbCF | .mvbDF | .jz _ | .jg _ | .jc _ => []
  | .adcAMem ea | .adcBMem ea | .adcCMem ea | .adcDMem ea | .sbbAMem ea | .sbbBMem ea | .sbbCMem ea | .sbbDMem ea
  | .andAMem ea | .andBMem ea | .andCMem ea | .andDMem ea | .orAMem ea | .orBMem ea | .orCMem ea | .orDMem ea
  | .ldbAMem ea | .ldbBMem ea | .ldbCMem ea | .ldbDMem ea => [readOf s ea]
  | .stbMemA ea => [.write ea s.a]
  | .stbMemB ea => [.write ea s.b]
  | .stbMemC ea => [.write ea s.c]
  | .stbMemD ea => [.write ea s.d]
  | .stbMemImm ea v => [.write ea v]
  | .pushA => [.write s.sp s.a]
  | .pushB => [.write s.sp s.b]
  | .pushC => [.write s.sp s.c]
  | .pushD => [.write s.sp s.d]
  | .pushF => [.write s.sp s.f]
  | .popA | .popB | .popC | .popD | .popF | .popDiscard => [readOf s (s.sp + 1)]
  | .pushIp => [.write s.sp (highByte s.ip), .write (s.sp - 1) (lowByte s.ip)]
  | .popIp => [readOf s (s.sp + 1), readOf s (s.sp + 2)]
  | .pushImm v => [.write s.sp v]
  | .pushMem z => [readOf s (zext16 z), .write s.sp (s.memRead (zext16 z))]
  | .derefAB => [readOf s (pairAddress .b .a s)]
  | .derefCD => [readOf s (pairAddress .d .c s)]

/-- The reads of `n` instruction-stream bytes from `a` on. -/
def streamReads (s : State) (a : Addr) : Nat → List Transaction
  | 0 => []
  | n + 1 => readOf s a :: streamReads s (a + 1) n

/-- All transactions of a step: none when the core is not Running (R36); the one opcode read of an illegal opcode (R252);
else the instruction's bytes and then its data accesses (R68). -/
def transactions (s : State) : List Transaction :=
  match s.runState with
  | .running =>
    match fetchInstr s with
    | .instr i s' => streamReads s s.ip i.length ++ dataAccesses i s'
    | .illegal _ => [readOf s s.ip]
  | .halted => []
  | .faulted => []

/-- The effect of transactions on the bytes of memory: each write lands, in order (R53, R64). -/
def replay (s : State) : List Transaction → State
  | [] => s
  | .read _ _ :: ts => replay s ts
  | .write a v :: ts => replay (s.memWrite a v) ts

end Sys2Proof.Machine
end

