-- ==== Sys2Proof/Machine/HostPort.lean ====
section
/-! DEFINITION. The control interface of the core (spec/20_memory.md R69, R71; spec/70_reset_and_hazards.md R284): what
the host may ask between steps. The outputs are `continueOutput` and `faultOutput` of Sys2Proof/Machine/Ops.lean; the
read-only visibility of the registers is State itself. -/

namespace Sys2Proof.Machine

/-- The host's inputs (R69). It changes the state in no other way (R71, D15). -/
inductive Request where
  /-- Execute one instruction (R84). -/
  | step
  /-- Reset; the byte is the open parameter `INSN_RESET` (R280, D12). -/
  | reset (insnReset : Byte)
deriving DecidableEq, Repr

/-- The core's answer to one request, applied between steps, in any run state (R284). -/
def respond (r : Request) (s : State) : Host.Outcome State Fault Refusal :=
  match r with
  | .step => step s
  | .reset v => .next (applyReset v s)

end Sys2Proof.Machine
end

