-- ==== Sys2Proof/Safety.lean ====
section
/-! DEFINITION. What a run is, how it ends, and what counts as safe (spec/70_reset_and_hazards.md R288). -/

namespace Sys2Proof.Machine

/-- `k` step requests in a row (R288). A run never ends in a fault or a refusal of the model's. -/
def stepMany : Nat → State → Host.Outcome State Fault Refusal := Sys2Proof.core.run

/-- The run has ended: `continue` is false (R69, R288). -/
def State.ended (s : State) : Bool := !continueOutput s

/-- A normal end: Halted (R288). -/
def State.endedNormally (s : State) : Bool := s.runState == .halted

/-- An abnormal end: Faulted (R288). -/
def State.endedAbnormally (s : State) : Bool := s.runState == .faulted

/-- A state is safe when no illegal opcode has been met (R37). -/
def State.safe (s : State) : Bool := !s.fault

/-- What holds of every state the core reaches: memory canonical; after an illegal opcode, `INSN` is the byte at the
unmoved `IP`, it is no opcode, and the core was not halted (R251, R288); when halted, `INSN` is `BRK`, `MVB_F_r` or
`POP_F` (R36, R288). -/
def State.Inv (s : State) : Prop :=
  s.mem.wf = true ∧
  (s.fault = true → s.insn = s.memRead s.ip ∧ 0x93 ≤ s.insn.toNat ∧ s.flag .halt = false) ∧
  (s.flag .halt = true → s.insn ∈ [0x01#8, 0x77#8, 0x78#8, 0x79#8, 0x7A#8, 0x8B#8])

end Sys2Proof.Machine
end

