-- ==== Sys2Proof/Certificates/Slice0/Obligations.lean ====
section
/-! DEFINITION. The statements for the provers, and the words they are written in. Bits of `F` are written by their numbers
(Zero 0, Carry 1, Greater 2, Halt 3; R22) and results by integer arithmetic, not by the model's own functions.

The spec chose three things that most statements use: the opcode values (`OPCODE_MAP`, D1; log 3), the bit numbers of the flags
(`FLAG_BIT`, D3; log 4), and that flag updates keep `F[7:4]` (D4; log 9). -/

namespace Sys2Proof.Claims

open Sys2Proof.Machine

/-- Every byte of memory reads as before. -/
def SameMemory (s t : State) : Prop := ∀ x : Addr, t.memRead x = s.memRead x

/-- Every general register is as before. -/
def SameRegs (s t : State) : Prop := ∀ q : Reg, t.reg q = s.reg q

/-- Every general register but `r` is as before. -/
def SameRegsBut (r : Reg) (s t : State) : Prop := ∀ q : Reg, q ≠ r → t.reg q = s.reg q

/-- `INSN` and `FAULT` are as before. -/
def SameLatches (s t : State) : Prop := t.insn = s.insn ∧ t.fault = s.fault

/-- The byte at `x` is `v`, every other byte reads as before. -/
def StoredOnly (x : Addr) (v : Byte) (s t : State) : Prop :=
  ∀ y : Addr, t.memRead y = if y = x then v else s.memRead y

/-- What a store leaves alone: every register, `F`, `IP`, `INSN`, `FAULT`. -/
def StoreFrame (s t : State) : Prop := SameRegs s t ∧ t.f = s.f ∧ t.ip = s.ip ∧ SameLatches s t

/-- What an instruction whose one destination is `r` leaves alone: everything else, all of memory included. -/
def RegisterFrame (r : Reg) (s t : State) : Prop :=
  SameRegsBut r s t ∧ t.f = s.f ∧ t.sp = s.sp ∧ t.ip = s.ip ∧ SameLatches s t ∧ SameMemory s t

/-- The flags of an arithmetic-logic instruction with destination `r` (R29), and all it leaves alone. -/
def AluFlagsAndFrame (r : Reg) (s t : State) : Prop :=
  t.f.getLsbD 0 = decide (t.reg r = 0#8) ∧ t.f.getLsbD 1 = decide ((t.reg r).toNat < (s.reg r).toNat) ∧
  t.f.getLsbD 2 = !(t.reg r).getLsbD 7 ∧ (∀ k, 3 ≤ k → t.f.getLsbD k = s.f.getLsbD k) ∧
  SameRegsBut r s t ∧ t.sp = s.sp ∧ t.ip = s.ip ∧ SameLatches s t ∧ SameMemory s t

/-- The flags of `NOT` and the shifts with destination `r` (R30), and all they leave alone. -/
def UnaryFlagsAndFrame (r : Reg) (s t : State) : Prop :=
  t.f.getLsbD 0 = decide (t.reg r = 0#8) ∧ (∀ k, 1 ≤ k → t.f.getLsbD k = s.f.getLsbD k) ∧
  SameRegsBut r s t ∧ t.sp = s.sp ∧ t.ip = s.ip ∧ SameLatches s t ∧ SameMemory s t

/-- The two bytes of a 16-bit operand: `w[7:0]`, then `w[15:8]` (R80). -/
def leBytes (w : Addr) : List Byte := [w.extractLsb' 0 8, w.extractLsb' 8 8]

/-- `bs` at `IP` is the instruction `i`: in Running, a step latches their first byte, moves `IP` past them and runs `i`. -/
def RunsAs (i : Instr) (bs : List Byte) : Prop :=
  ∀ s : State, s.runState = .running → s.bytesAt s.ip bs.length = bs →
    step s = exec i ((s.latch (bs.headD 0#8)).setIp (s.ip + BitVec.ofNat 16 bs.length))

/-- The opcode value of an instruction (R85). -/
def opcodeOf (i : Instr) : Nat := ((encode i).headD 0#8).toNat

/-- The reset values of R280, with `INSN_RESET` as `v`. -/
def ResetValues (v : Byte) (t : State) : Prop :=
  t.a = 0#8 ∧ t.b = 0#8 ∧ t.c = 0#8 ∧ t.d = 0#8 ∧ t.f = 0#8 ∧ t.sp = 0x7FFF#16 ∧ t.ip = 0x8000#16 ∧
  t.fault = false ∧ t.insn = v

/-- The four arithmetic-logic operations. -/
inductive AluOp where
  | adc
  | sbb
  | and
  | or
deriving DecidableEq, Repr

/-- Operation, destination and operand byte of the 80 arithmetic-logic instructions (R102 to R181), none for the rest. -/
def aluForm (i : Instr) (s : State) : Option (AluOp × Reg × Byte) :=
  match i with
  | .adcAB => some (.adc, .a, s.b)
  | .adcAC => some (.adc, .a, s.c)
  | .adcAD => some (.adc, .a, s.d)
  | .adcBA => some (.adc, .b, s.a)
  | .adcBC => some (.adc, .b, s.c)
  | .adcBD => some (.adc, .b, s.d)
  | .adcCA => some (.adc, .c, s.a)
  | .adcCB => some (.adc, .c, s.b)
  | .adcCD => some (.adc, .c, s.d)
  | .adcDA => some (.adc, .d, s.a)
  | .adcDB => some (.adc, .d, s.b)
  | .adcDC => some (.adc, .d, s.c)
  | .adcAImm v => some (.adc, .a, v)
  | .adcBImm v => some (.adc, .b, v)
  | .adcCImm v => some (.adc, .c, v)
  | .adcDImm v => some (.adc, .d, v)
  | .adcAMem ea => some (.adc, .a, s.memRead ea)
  | .adcBMem ea => some (.adc, .b, s.memRead ea)
  | .adcCMem ea => some (.adc, .c, s.memRead ea)
  | .adcDMem ea => some (.adc, .d, s.memRead ea)
  | .sbbAB => some (.sbb, .a, s.b)
  | .sbbAC => some (.sbb, .a, s.c)
  | .sbbAD => some (.sbb, .a, s.d)
  | .sbbBA => some (.sbb, .b, s.a)
  | .sbbBC => some (.sbb, .b, s.c)
  | .sbbBD => some (.sbb, .b, s.d)
  | .sbbCA => some (.sbb, .c, s.a)
  | .sbbCB => some (.sbb, .c, s.b)
  | .sbbCD => some (.sbb, .c, s.d)
  | .sbbDA => some (.sbb, .d, s.a)
  | .sbbDB => some (.sbb, .d, s.b)
  | .sbbDC => some (.sbb, .d, s.c)
  | .sbbAImm v => some (.sbb, .a, v)
  | .sbbBImm v => some (.sbb, .b, v)
  | .sbbCImm v => some (.sbb, .c, v)
  | .sbbDImm v => some (.sbb, .d, v)
  | .sbbAMem ea => some (.sbb, .a, s.memRead ea)
  | .sbbBMem ea => some (.sbb, .b, s.memRead ea)
  | .sbbCMem ea => some (.sbb, .c, s.memRead ea)
  | .sbbDMem ea => some (.sbb, .d, s.memRead ea)
  | .andAB => some (.and, .a, s.b)
  | .andAC => some (.and, .a, s.c)
  | .andAD => some (.and, .a, s.d)
  | .andBA => some (.and, .b, s.a)
  | .andBC => some (.and, .b, s.c)
  | .andBD => some (.and, .b, s.d)
  | .andCA => some (.and, .c, s.a)
  | .andCB => some (.and, .c, s.b)
  | .andCD => some (.and, .c, s.d)
  | .andDA => some (.and, .d, s.a)
  | .andDB => some (.and, .d, s.b)
  | .andDC => some (.and, .d, s.c)
  | .andAImm v => some (.and, .a, v)
  | .andBImm v => some (.and, .b, v)
  | .andCImm v => some (.and, .c, v)
  | .andDImm v => some (.and, .d, v)
  | .andAMem ea => some (.and, .a, s.memRead ea)
  | .andBMem ea => some (.and, .b, s.memRead ea)
  | .andCMem ea => some (.and, .c, s.memRead ea)
  | .andDMem ea => some (.and, .d, s.memRead ea)
  | .orAB => some (.or, .a, s.b)
  | .orAC => some (.or, .a, s.c)
  | .orAD => some (.or, .a, s.d)
  | .orBA => some (.or, .b, s.a)
  | .orBC => some (.or, .b, s.c)
  | .orBD => some (.or, .b, s.d)
  | .orCA => some (.or, .c, s.a)
  | .orCB => some (.or, .c, s.b)
  | .orCD => some (.or, .c, s.d)
  | .orDA => some (.or, .d, s.a)
  | .orDB => some (.or, .d, s.b)
  | .orDC => some (.or, .d, s.c)
  | .orAImm v => some (.or, .a, v)
  | .orBImm v => some (.or, .b, v)
  | .orCImm v => some (.or, .c, v)
  | .orDImm v => some (.or, .d, v)
  | .orAMem ea => some (.or, .a, s.memRead ea)
  | .orBMem ea => some (.or, .b, s.memRead ea)
  | .orCMem ea => some (.or, .c, s.memRead ea)
  | .orDMem ea => some (.or, .d, s.memRead ea)
  | _ => none

/-- The register that `NOT`, `SHL` and `SHR` read and write (R182 to R193), none for the rest. -/
def unaryDest (i : Instr) : Option Reg :=
  match i with
  | .notA | .shlAImm _ | .shrAImm _ => some .a
  | .notB | .shlBImm _ | .shrBImm _ => some .b
  | .notC | .shlCImm _ | .shrCImm _ => some .c
  | .notD | .shlDImm _ | .shrDImm _ => some .d
  | _ => none

/-- How many byte transactions a step of `i` makes, as R68 counts them. -/
def transactionTotal (i : Instr) : Nat :=
  match i with
  | .pushA | .pushB | .pushC | .pushD | .pushF | .popA | .popB | .popC | .popD | .popF | .popDiscard => 2
  | .pushIp | .popIp => 3
  | .pushImm _ => 3
  | .pushMem _ => 4
  | .jz _ | .jg _ | .jc _ => 3
  | .stbMemImm _ _ => 5
  | .derefAB | .derefCD => 2
  | i =>
    match i.format with
    | .f0 => 1
    | .fi => 2
    | .fz => 4
    | .fa => 4
    | .fai => 5

end Sys2Proof.Claims

open Sys2Proof Sys2Proof.Machine Sys2Proof.Claims

/-- R100, R101: the two instructions, from their byte in memory to the whole next state. -/
def Obligations.NopAndBrk : Prop :=
  RunsAs .nop [0x00#8] ∧ (∀ s : State, exec .nop s = .next s) ∧
  RunsAs .brk [0x01#8] ∧
  ∀ s : State, ∃ t, exec .brk s = .next t ∧ t.f.getLsbD 3 = true ∧ (∀ k, k ≠ 3 → t.f.getLsbD k = s.f.getLsbD k) ∧
    SameRegs s t ∧ t.sp = s.sp ∧ t.ip = s.ip ∧ SameLatches s t ∧ SameMemory s t ∧ continueOutput t = false ∧
    (s.fault = false → t.runState = .halted)

/-- R102 to R113: add with carry, register `q` into register `r`. -/
def Obligations.AdcRegisterPairs : Prop :=
  ∀ (i : Instr) (op : Byte) (r q : Reg), (i, op, r, q) ∈
      ([(.adcAB, 0x02#8, .a, .b), (.adcAC, 0x03#8, .a, .c), (.adcAD, 0x04#8, .a, .d), (.adcBA, 0x05#8, .b, .a),
        (.adcBC, 0x06#8, .b, .c), (.adcBD, 0x07#8, .b, .d), (.adcCA, 0x08#8, .c, .a), (.adcCB, 0x09#8, .c, .b),
        (.adcCD, 0x0A#8, .c, .d), (.adcDA, 0x0B#8, .d, .a), (.adcDB, 0x0C#8, .d, .b), (.adcDC, 0x0D#8, .d, .c)] : List (Instr × Byte × Reg × Reg)) →
    RunsAs i [op] ∧
    ∀ s : State, ∃ t, exec i s = .next t ∧ (t.reg r).toNat = ((s.reg r).toNat + (s.reg q).toNat + (s.f.getLsbD 1).toNat) % 256 ∧
      AluFlagsAndFrame r s t

/-- R114 to R121: add with carry, an immediate byte or the byte at a 16-bit address into register `r`. -/
def Obligations.AdcImmediatesAndMemory : Prop :=
  (∀ (mk : Byte → Instr) (op : Byte) (r : Reg), (mk, op, r) ∈
      ([(.adcAImm, 0x0E#8, .a), (.adcBImm, 0x0F#8, .b), (.adcCImm, 0x10#8, .c), (.adcDImm, 0x11#8, .d)] : List ((Byte → Instr) × Byte × Reg)) →
    ∀ v : Byte, RunsAs (mk v) [op, v] ∧
    ∀ s : State, ∃ t, exec (mk v) s = .next t ∧ (t.reg r).toNat = ((s.reg r).toNat + v.toNat + (s.f.getLsbD 1).toNat) % 256 ∧
      AluFlagsAndFrame r s t) ∧
  ∀ (mk : Addr → Instr) (op : Byte) (r : Reg), (mk, op, r) ∈
      ([(.adcAMem, 0x12#8, .a), (.adcBMem, 0x13#8, .b), (.adcCMem, 0x14#8, .c), (.adcDMem, 0x15#8, .d)] : List ((Addr → Instr) × Byte × Reg)) →
    ∀ ea : Addr, RunsAs (mk ea) (op :: leBytes ea) ∧
    ∀ s : State, ∃ t, exec (mk ea) s = .next t ∧ (t.reg r).toNat = ((s.reg r).toNat + (s.memRead ea).toNat + (s.f.getLsbD 1).toNat) % 256 ∧
      AluFlagsAndFrame r s t

/-- R122 to R133: subtract with borrow, register `q` into register `r`. -/
def Obligations.SbbRegisterPairs : Prop :=
  ∀ (i : Instr) (op : Byte) (r q : Reg), (i, op, r, q) ∈
      ([(.sbbAB, 0x16#8, .a, .b), (.sbbAC, 0x17#8, .a, .c), (.sbbAD, 0x18#8, .a, .d), (.sbbBA, 0x19#8, .b, .a),
        (.sbbBC, 0x1A#8, .b, .c), (.sbbBD, 0x1B#8, .b, .d), (.sbbCA, 0x1C#8, .c, .a), (.sbbCB, 0x1D#8, .c, .b),
        (.sbbCD, 0x1E#8, .c, .d), (.sbbDA, 0x1F#8, .d, .a), (.sbbDB, 0x20#8, .d, .b), (.sbbDC, 0x21#8, .d, .c)] : List (Instr × Byte × Reg × Reg)) →
    RunsAs i [op] ∧
    ∀ s : State, ∃ t, exec i s = .next t ∧ ((t.reg r).toNat : Int) = ((s.reg r).toNat - (s.reg q).toNat - (s.f.getLsbD 1).toNat : Int) % 256 ∧
      AluFlagsAndFrame r s t

/-- R134 to R141: subtract with borrow, an immediate byte or the byte at a 16-bit address into register `r`. -/
def Obligations.SbbImmediatesAndMemory : Prop :=
  (∀ (mk : Byte → Instr) (op : Byte) (r : Reg), (mk, op, r) ∈
      ([(.sbbAImm, 0x22#8, .a), (.sbbBImm, 0x23#8, .b), (.sbbCImm, 0x24#8, .c), (.sbbDImm, 0x25#8, .d)] : List ((Byte → Instr) × Byte × Reg)) →
    ∀ v : Byte, RunsAs (mk v) [op, v] ∧
    ∀ s : State, ∃ t, exec (mk v) s = .next t ∧ ((t.reg r).toNat : Int) = ((s.reg r).toNat - v.toNat - (s.f.getLsbD 1).toNat : Int) % 256 ∧
      AluFlagsAndFrame r s t) ∧
  ∀ (mk : Addr → Instr) (op : Byte) (r : Reg), (mk, op, r) ∈
      ([(.sbbAMem, 0x26#8, .a), (.sbbBMem, 0x27#8, .b), (.sbbCMem, 0x28#8, .c), (.sbbDMem, 0x29#8, .d)] : List ((Addr → Instr) × Byte × Reg)) →
    ∀ ea : Addr, RunsAs (mk ea) (op :: leBytes ea) ∧
    ∀ s : State, ∃ t, exec (mk ea) s = .next t ∧ ((t.reg r).toNat : Int) = ((s.reg r).toNat - (s.memRead ea).toNat - (s.f.getLsbD 1).toNat : Int) % 256 ∧
      AluFlagsAndFrame r s t

/-- R142 to R153: bitwise AND, register `q` into register `r`. -/
def Obligations.AndRegisterPairs : Prop :=
  ∀ (i : Instr) (op : Byte) (r q : Reg), (i, op, r, q) ∈
      ([(.andAB, 0x2A#8, .a, .b), (.andAC, 0x2B#8, .a, .c), (.andAD, 0x2C#8, .a, .d), (.andBA, 0x2D#8, .b, .a),
        (.andBC, 0x2E#8, .b, .c), (.andBD, 0x2F#8, .b, .d), (.andCA, 0x30#8, .c, .a), (.andCB, 0x31#8, .c, .b),
        (.andCD, 0x32#8, .c, .d), (.andDA, 0x33#8, .d, .a), (.andDB, 0x34#8, .d, .b), (.andDC, 0x35#8, .d, .c)] : List (Instr × Byte × Reg × Reg)) →
    RunsAs i [op] ∧
    ∀ s : State, ∃ t, exec i s = .next t ∧ t.reg r = s.reg r &&& (s.reg q) ∧
      AluFlagsAndFrame r s t

/-- R154 to R161: bitwise AND, an immediate byte or the byte at a 16-bit address into register `r`. -/
def Obligations.AndImmediatesAndMemory : Prop :=
  (∀ (mk : Byte → Instr) (op : Byte) (r : Reg), (mk, op, r) ∈
      ([(.andAImm, 0x36#8, .a), (.andBImm, 0x37#8, .b), (.andCImm, 0x38#8, .c), (.andDImm, 0x39#8, .d)] : List ((Byte → Instr) × Byte × Reg)) →
    ∀ v : Byte, RunsAs (mk v) [op, v] ∧
    ∀ s : State, ∃ t, exec (mk v) s = .next t ∧ t.reg r = s.reg r &&& v ∧
      AluFlagsAndFrame r s t) ∧
  ∀ (mk : Addr → Instr) (op : Byte) (r : Reg), (mk, op, r) ∈
      ([(.andAMem, 0x3A#8, .a), (.andBMem, 0x3B#8, .b), (.andCMem, 0x3C#8, .c), (.andDMem, 0x3D#8, .d)] : List ((Addr → Instr) × Byte × Reg)) →
    ∀ ea : Addr, RunsAs (mk ea) (op :: leBytes ea) ∧
    ∀ s : State, ∃ t, exec (mk ea) s = .next t ∧ t.reg r = s.reg r &&& (s.memRead ea) ∧
      AluFlagsAndFrame r s t

/-- R162 to R173: bitwise OR, register `q` into register `r`. -/
def Obligations.OrRegisterPairs : Prop :=
  ∀ (i : Instr) (op : Byte) (r q : Reg), (i, op, r, q) ∈
      ([(.orAB, 0x3E#8, .a, .b), (.orAC, 0x3F#8, .a, .c), (.orAD, 0x40#8, .a, .d), (.orBA, 0x41#8, .b, .a),
        (.orBC, 0x42#8, .b, .c), (.orBD, 0x43#8, .b, .d), (.orCA, 0x44#8, .c, .a), (.orCB, 0x45#8, .c, .b),
        (.orCD, 0x46#8, .c, .d), (.orDA, 0x47#8, .d, .a), (.orDB, 0x48#8, .d, .b), (.orDC, 0x49#8, .d, .c)] : List (Instr × Byte × Reg × Reg)) →
    RunsAs i [op] ∧
    ∀ s : State, ∃ t, exec i s = .next t ∧ t.reg r = s.reg r ||| (s.reg q) ∧
      AluFlagsAndFrame r s t

/-- R174 to R181: bitwise OR, an immediate byte or the byte at a 16-bit address into register `r`. -/
def Obligations.OrImmediatesAndMemory : Prop :=
  (∀ (mk : Byte → Instr) (op : Byte) (r : Reg), (mk, op, r) ∈
      ([(.orAImm, 0x4A#8, .a), (.orBImm, 0x4B#8, .b), (.orCImm, 0x4C#8, .c), (.orDImm, 0x4D#8, .d)] : List ((Byte → Instr) × Byte × Reg)) →
    ∀ v : Byte, RunsAs (mk v) [op, v] ∧
    ∀ s : State, ∃ t, exec (mk v) s = .next t ∧ t.reg r = s.reg r ||| v ∧
      AluFlagsAndFrame r s t) ∧
  ∀ (mk : Addr → Instr) (op : Byte) (r : Reg), (mk, op, r) ∈
      ([(.orAMem, 0x4E#8, .a), (.orBMem, 0x4F#8, .b), (.orCMem, 0x50#8, .c), (.orDMem, 0x51#8, .d)] : List ((Addr → Instr) × Byte × Reg)) →
    ∀ ea : Addr, RunsAs (mk ea) (op :: leBytes ea) ∧
    ∀ s : State, ∃ t, exec (mk ea) s = .next t ∧ t.reg r = s.reg r ||| (s.memRead ea) ∧
      AluFlagsAndFrame r s t

/-- R182 to R185: the complement in place. -/
def Obligations.NotInPlace : Prop :=
  ∀ (i : Instr) (op : Byte) (r : Reg), (i, op, r) ∈
      ([(.notA, 0x52#8, .a), (.notB, 0x53#8, .b), (.notC, 0x54#8, .c), (.notD, 0x55#8, .d)] : List (Instr × Byte × Reg)) →
    RunsAs i [op] ∧
    ∀ s : State, ∃ t, exec i s = .next t ∧ (t.reg r).toNat = 255 - (s.reg r).toNat ∧ UnaryFlagsAndFrame r s t

/-- R186 to R193: logical shifts. That a count of 8 or more gives 0 is the spec's own choice (D9, log 6). -/
def Obligations.ShiftsByImmediate : Prop :=
  (∀ (mk : Byte → Instr) (op : Byte) (r : Reg), (mk, op, r) ∈
      ([(.shlAImm, 0x56#8, .a), (.shlBImm, 0x57#8, .b), (.shlCImm, 0x58#8, .c), (.shlDImm, 0x59#8, .d)] : List ((Byte → Instr) × Byte × Reg)) →
    ∀ n : Byte, RunsAs (mk n) [op, n] ∧
    ∀ s : State, ∃ t, exec (mk n) s = .next t ∧
      (t.reg r).toNat = (if 8 ≤ n.toNat then 0 else (s.reg r).toNat * 2 ^ n.toNat % 256) ∧ UnaryFlagsAndFrame r s t) ∧
  ∀ (mk : Byte → Instr) (op : Byte) (r : Reg), (mk, op, r) ∈
      ([(.shrAImm, 0x5A#8, .a), (.shrBImm, 0x5B#8, .b), (.shrCImm, 0x5C#8, .c), (.shrDImm, 0x5D#8, .d)] : List ((Byte → Instr) × Byte × Reg)) →
    ∀ n : Byte, RunsAs (mk n) [op, n] ∧
    ∀ s : State, ∃ t, exec (mk n) s = .next t ∧
      (t.reg r).toNat = (if 8 ≤ n.toNat then 0 else (s.reg r).toNat / 2 ^ n.toNat) ∧ UnaryFlagsAndFrame r s t

/-- R194 to R201: loads. -/
def Obligations.LoadsOfAByte : Prop :=
  (∀ (mk : Byte → Instr) (op : Byte) (r : Reg), (mk, op, r) ∈
      ([(.ldbAImm, 0x5E#8, .a), (.ldbBImm, 0x5F#8, .b), (.ldbCImm, 0x60#8, .c), (.ldbDImm, 0x61#8, .d)] : List ((Byte → Instr) × Byte × Reg)) →
    ∀ v : Byte, RunsAs (mk v) [op, v] ∧
    ∀ s : State, ∃ t, exec (mk v) s = .next t ∧ t.reg r = v ∧ RegisterFrame r s t) ∧
  ∀ (mk : Addr → Instr) (op : Byte) (r : Reg), (mk, op, r) ∈
      ([(.ldbAMem, 0x62#8, .a), (.ldbBMem, 0x63#8, .b), (.ldbCMem, 0x64#8, .c), (.ldbDMem, 0x65#8, .d)] : List ((Addr → Instr) × Byte × Reg)) →
    ∀ ea : Addr, RunsAs (mk ea) (op :: leBytes ea) ∧
    ∀ s : State, ∃ t, exec (mk ea) s = .next t ∧ t.reg r = s.memRead ea ∧ RegisterFrame r s t

/-- R202 to R205, and `STB_MEM_IMM` (R206): stores to a 16-bit address. The operand order of `STB_MEM_IMM` is the spec's own choice (D7, log 5). -/
def Obligations.StoresOfAByte : Prop :=
  (∀ (mk : Addr → Instr) (op : Byte) (r : Reg), (mk, op, r) ∈
      ([(.stbMemA, 0x66#8, .a), (.stbMemB, 0x67#8, .b), (.stbMemC, 0x68#8, .c), (.stbMemD, 0x69#8, .d)] : List ((Addr → Instr) × Byte × Reg)) →
    ∀ ea : Addr, RunsAs (mk ea) (op :: leBytes ea) ∧
    ∀ s : State, ∃ t, exec (mk ea) s = .next t ∧ StoredOnly ea (s.reg r) s t ∧ StoreFrame s t ∧ t.sp = s.sp) ∧
  ∀ (ea : Addr) (v : Byte), RunsAs (.stbMemImm ea v) (0x6A#8 :: (leBytes ea ++ [v])) ∧
    ∀ s : State, ∃ t, exec (.stbMemImm ea v) s = .next t ∧ StoredOnly ea v s t ∧ StoreFrame s t ∧ t.sp = s.sp

/-- R207 to R218: moves between general registers. -/
def Obligations.MovesBetweenRegisters : Prop :=
  ∀ (i : Instr) (op : Byte) (r q : Reg), (i, op, r, q) ∈
      ([(.mvbAB, 0x6B#8, .a, .b), (.mvbAC, 0x6C#8, .a, .c), (.mvbAD, 0x6D#8, .a, .d), (.mvbBA, 0x6E#8, .b, .a),
        (.mvbBC, 0x6F#8, .b, .c), (.mvbBD, 0x70#8, .b, .d), (.mvbCA, 0x71#8, .c, .a), (.mvbCB, 0x72#8, .c, .b),
        (.mvbCD, 0x73#8, .c, .d), (.mvbDA, 0x74#8, .d, .a), (.mvbDB, 0x75#8, .d, .b), (.mvbDC, 0x76#8, .d, .c)] : List (Instr × Byte × Reg × Reg)) →
    RunsAs i [op] ∧ ∀ s : State, ∃ t, exec i s = .next t ∧ t.reg r = s.reg q ∧ RegisterFrame r s t

/-- R219 to R226: whole-byte moves of `F`. -/
def Obligations.MovesToAndFromFlags : Prop :=
  (∀ (i : Instr) (op : Byte) (r : Reg), (i, op, r) ∈
      ([(.mvbFA, 0x77#8, .a), (.mvbFB, 0x78#8, .b), (.mvbFC, 0x79#8, .c), (.mvbFD, 0x7A#8, .d)] : List (Instr × Byte × Reg)) →
    RunsAs i [op] ∧
    ∀ s : State, ∃ t, exec i s = .next t ∧ t.f = s.reg r ∧ SameRegs s t ∧ t.sp = s.sp ∧ t.ip = s.ip ∧
      SameLatches s t ∧ SameMemory s t ∧ (s.fault = false → (t.runState = .halted ↔ (s.reg r).getLsbD 3 = true))) ∧
  ∀ (i : Instr) (op : Byte) (r : Reg), (i, op, r) ∈
      ([(.mvbAF, 0x7B#8, .a), (.mvbBF, 0x7C#8, .b), (.mvbCF, 0x7D#8, .c), (.mvbDF, 0x7E#8, .d)] : List (Instr × Byte × Reg)) →
    RunsAs i [op] ∧
    ∀ s : State, ∃ t, exec i s = .next t ∧ t.reg r = s.f ∧ RegisterFrame r s t ∧
      (s.runState = .running → (t.reg r).getLsbD 3 = false)

/-- R227 to R229: absolute jumps on one stored flag. -/
def Obligations.ConditionalJumps : Prop :=
  ∀ (mk : Addr → Instr) (op : Byte) (k : Nat), (mk, op, k) ∈
      ([(.jz, 0x7F#8, 0), (.jg, 0x80#8, 2), (.jc, 0x81#8, 1)] : List ((Addr → Instr) × Byte × Nat)) →
    ∀ w : Addr, RunsAs (mk w) (op :: leBytes w) ∧
    ∀ s : State, ∃ t, exec (mk w) s = .next t ∧ t.ip = (if s.f.getLsbD k = true then w else s.ip) ∧
      SameRegs s t ∧ t.f = s.f ∧ t.sp = s.sp ∧ SameLatches s t ∧ SameMemory s t

/-- R230 to R234, R243, R244: pushes of one byte. The zero extension of the address of `PUSH_MEM` is the spec's own choice (D8, log 11). -/
def Obligations.PushesOfAByte : Prop :=
  (∀ (i : Instr) (op : Byte) (r : Reg), (i, op, r) ∈
      ([(.pushA, 0x82#8, .a), (.pushB, 0x83#8, .b), (.pushC, 0x84#8, .c), (.pushD, 0x85#8, .d)] : List (Instr × Byte × Reg)) →
    RunsAs i [op] ∧
    ∀ s : State, ∃ t, exec i s = .next t ∧ StoredOnly s.sp (s.reg r) s t ∧ StoreFrame s t ∧ t.sp = s.sp - 1) ∧
  RunsAs .pushF [0x86#8] ∧
  (∀ s : State, ∃ t, exec .pushF s = .next t ∧ StoredOnly s.sp s.f s t ∧ StoreFrame s t ∧ t.sp = s.sp - 1 ∧
    (s.runState = .running → (t.memRead s.sp).getLsbD 3 = false)) ∧
  ∀ v : Byte, RunsAs (.pushImm v) [0x8F#8, v] ∧ RunsAs (.pushMem v) [0x90#8, v] ∧
    ∀ s : State,
      (∃ t, exec (.pushImm v) s = .next t ∧ StoredOnly s.sp v s t ∧ StoreFrame s t ∧ t.sp = s.sp - 1) ∧
      ∃ t, exec (.pushMem v) s = .next t ∧ StoredOnly s.sp (s.memRead (BitVec.ofNat 16 v.toNat)) s t ∧
        StoreFrame s t ∧ t.sp = s.sp - 1

/-- R235 to R239, R242: pops of one byte. -/
def Obligations.PopsOfAByte : Prop :=
  (∀ (i : Instr) (op : Byte) (r : Reg), (i, op, r) ∈
      ([(.popA, 0x87#8, .a), (.popB, 0x88#8, .b), (.popC, 0x89#8, .c), (.popD, 0x8A#8, .d)] : List (Instr × Byte × Reg)) →
    RunsAs i [op] ∧
    ∀ s : State, ∃ t, exec i s = .next t ∧ t.sp = s.sp + 1 ∧ t.reg r = s.memRead (s.sp + 1) ∧ SameRegsBut r s t ∧
      t.f = s.f ∧ t.ip = s.ip ∧ SameLatches s t ∧ SameMemory s t) ∧
  RunsAs .popF [0x8B#8] ∧
  (∀ s : State, ∃ t, exec .popF s = .next t ∧ t.sp = s.sp + 1 ∧ t.f = s.memRead (s.sp + 1) ∧ SameRegs s t ∧
    t.ip = s.ip ∧ SameLatches s t ∧ SameMemory s t ∧
    (s.fault = false → (t.runState = .halted ↔ (s.memRead (s.sp + 1)).getLsbD 3 = true))) ∧
  RunsAs .popDiscard [0x8E#8] ∧
  ∀ s : State, ∃ t, exec .popDiscard s = .next t ∧ t.sp = s.sp + 1 ∧ SameRegs s t ∧ t.f = s.f ∧ t.ip = s.ip ∧
    SameLatches s t ∧ SameMemory s t

/-- R240, R241: the instruction pointer through the stack. The value pushed is the spec's own choice (D14, log 12). -/
def Obligations.PushIpAndPopIp : Prop :=
  RunsAs .pushIp [0x8C#8] ∧
  (∀ s : State, ∃ t, exec .pushIp s = .next t ∧
    (∀ x : Addr, t.memRead x = if x = s.sp then s.ip.extractLsb' 8 8 else if x = s.sp - 1 then s.ip.extractLsb' 0 8
      else s.memRead x) ∧ StoreFrame s t ∧ t.sp = s.sp - 2) ∧
  RunsAs .popIp [0x8D#8] ∧
  ∀ s : State, ∃ t, exec .popIp s = .next t ∧
    t.ip.toNat = (s.memRead (s.sp + 2)).toNat * 256 + (s.memRead (s.sp + 1)).toNat ∧ t.sp = s.sp + 2 ∧
    SameRegs s t ∧ t.f = s.f ∧ SameLatches s t ∧ SameMemory s t

/-- R245, R246: loads through a register pair. The address and the untouched stack are the spec's own choice (D10, log 8). -/
def Obligations.IndirectLoads : Prop :=
  RunsAs .derefAB [0x91#8] ∧ RunsAs .derefCD [0x92#8] ∧
  ∀ s : State,
    (∃ t, exec .derefAB s = .next t ∧ t.a = s.memRead (BitVec.ofNat 16 (s.b.toNat * 256 + s.a.toNat)) ∧
      RegisterFrame .a s t) ∧
    ∃ t, exec .derefCD s = .next t ∧ t.c = s.memRead (BitVec.ofNat 16 (s.d.toNat * 256 + s.c.toNat)) ∧
      RegisterFrame .c s t

/-- R84: what one step is, in terms of the decoder and `exec`. That a stopped core does nothing and that an illegal byte leaves `IP` unmoved are the spec's own choice (D5, D6, log 7). -/
def Obligations.StepFetchesDecodesExecutes : Prop :=
  (∀ s : State, s.runState ≠ .running → step s = .next s) ∧
  (∀ (s : State) (op : Byte), s.runState = .running →
    decode (s.bytesAt s.ip 4) = .rejected (.illegalOpcode op) → step s = .next (raiseIllegalOpcode op s)) ∧
  (∀ (s : State) (i : Instr) (rest : List Byte), s.runState = .running →
    decode (s.bytesAt s.ip 4) = .instr i rest →
    step s = exec i ((s.latch (s.memRead s.ip)).setIp (s.ip + BitVec.ofNat 16 i.length))) ∧
  ∀ s : State, continueOutput s = true ↔ s.f.getLsbD 3 = false ∧ s.fault = false

/-- Round trip in both directions over all 147 instructions (R80, R85, R87; opcode values: D1, log 3; `STB_MEM_IMM`: D7, log 5). -/
def Obligations.DecodeAndEncodeAgree : Prop :=
  (∀ (i : Instr) (rest : List Byte), i.wellFormed = true → decode (encode i ++ rest) = .instr i rest) ∧
  ∀ (bs rest : List Byte) (i : Instr), decode bs = .instr i rest → bs = encode i ++ rest

/-- R86: the 109 illegal opcode values. The values are the spec's own choice (D1, log 3). -/
def Obligations.IllegalOpcodesAreExactlyThose : Prop :=
  (∀ (op : Byte) (bs : List Byte), decode (op :: bs) = .rejected (.illegalOpcode op) ↔ 0x93 ≤ op.toNat) ∧
  ∀ (op x y z : Byte) (bs : List Byte), op.toNat < 0x93 → ∃ i rest, decode (op :: x :: y :: z :: bs) = .instr i rest

/-- Sanity of the decoder on words written out by hand (R80, R85; values: D1, log 3; `STB_MEM_IMM`: D7, log 5). -/
def Obligations.WordsOfTheOpcodeTable : Prop :=
  decode [0x02#8] = .instr .adcAB [] ∧ decode [0x23#8, 0x01#8] = .instr (.sbbBImm 0x01#8) [] ∧
  decode [0x3A#8, 0x10#8, 0x00#8] = .instr (.andAMem 0x0010#16) [] ∧ decode [0x49#8] = .instr .orDC [] ∧
  decode [0x59#8, 0x08#8] = .instr (.shlDImm 0x08#8) [] ∧
  decode [0x6A#8, 0x34#8, 0x12#8, 0x5A#8] = .instr (.stbMemImm 0x1234#16 0x5A#8) [] ∧
  decode [0x7F#8, 0x00#8, 0x90#8] = .instr (.jz 0x9000#16) [] ∧ decode [0x90#8, 0x10#8] = .instr (.pushMem 0x10#8) [] ∧
  decode [0x92#8] = .instr .derefCD [] ∧ decode [0x93#8] = .rejected (.illegalOpcode 0x93#8)

/-- R251, R252: the only exception, taken as a next state. `FAULT` and the unmoved `IP` are the spec's own choice (D6, log 7). -/
def Obligations.IllegalOpcodeException : Prop :=
  ∀ s : State, s.runState = .running → 0x93 ≤ (s.memRead s.ip).toNat →
    (∃ t, step s = .next t ∧ t.insn = s.memRead s.ip ∧ t.fault = true ∧ SameRegs s t ∧ t.f = s.f ∧ t.sp = s.sp ∧
      t.ip = s.ip ∧ SameMemory s t ∧ t.runState = .faulted ∧ continueOutput t = false ∧
      faultOutput t = some (.illegalOpcode (s.memRead s.ip))) ∧
    transactions s = [.read s.ip (s.memRead s.ip)]

/-- R36: run states and their transitions. The stopped states are the spec's own choice (D5, D6, log 7). -/
def Obligations.RunStates : Prop :=
  (∀ s : State, (s.runState = .faulted ↔ s.fault = true) ∧
    (s.runState = .halted ↔ s.fault = false ∧ s.f.getLsbD 3 = true) ∧
    (s.runState = .running ↔ s.fault = false ∧ s.f.getLsbD 3 = false)) ∧
  State.reset.runState = .running ∧ (∀ (v : Byte) (s : State), (applyReset v s).runState = .running) ∧
  (∀ s : State, s.runState ≠ .running → step s = .next s ∧ transactions s = []) ∧
  ∀ s : State, s.runState = .running → ∃ t, step s = .next t ∧
    (t.runState = .halted ↔ s.memRead s.ip = 0x01#8 ∨ (s.memRead s.ip = 0x77#8 ∧ s.a.getLsbD 3 = true) ∨
      (s.memRead s.ip = 0x78#8 ∧ s.b.getLsbD 3 = true) ∨ (s.memRead s.ip = 0x79#8 ∧ s.c.getLsbD 3 = true) ∨
      (s.memRead s.ip = 0x7A#8 ∧ s.d.getLsbD 3 = true) ∨
      (s.memRead s.ip = 0x8B#8 ∧ (s.memRead (s.sp + 1)).getLsbD 3 = true))

/-- R37: the sticky bit. The bit is the spec's own choice (D6, log 7). -/
def Obligations.FaultBitIsSticky : Prop :=
  State.reset.fault = false ∧ (∀ (v : Byte) (s : State), (applyReset v s).fault = false) ∧
  (∀ s : State, s.fault = true → step s = .next s) ∧
  ∀ s : State, ∃ t, step s = .next t ∧
    (t.fault = true ↔ s.fault = true ∨ (s.runState = .running ∧ 0x93 ≤ (s.memRead s.ip).toNat))

/-- R38: the diagnostic latch, and that execution does not depend on it. -/
def Obligations.InsnIsLatchedAndNeverRead : Prop :=
  (∀ s : State, s.runState = .running → ∃ t, step s = .next t ∧ t.insn = s.memRead s.ip) ∧
  (∀ (s : State) (v : Byte), s.runState = .running → step (s.latch v) = step s) ∧
  (∀ (i : Instr) (s : State) (v : Byte), ∃ t, exec i s = .next t ∧ exec i (s.latch v) = .next (t.latch v)) ∧
  ∀ (v : Byte) (s : State), (applyReset v s).insn = v

/-- R28 (decision D4, log 9): the reserved bits have no effect and are kept by every flag update. -/
def Obligations.ReservedFlagBitsAreInert : Prop :=
  (∀ (i : Instr) (s : State) (m : Byte), ¬ (0x77 ≤ opcodeOf i ∧ opcodeOf i ≤ 0x7E) → opcodeOf i ≠ 0x86 →
    opcodeOf i ≠ 0x8B → ∃ t, exec i s = .next t ∧
      exec i (s.setF (s.f ^^^ (m &&& 0xF0#8))) = .next (t.setF (t.f ^^^ (m &&& 0xF0#8)))) ∧
  (∀ (i : Instr) (s : State) (m : Byte), (0x77 ≤ opcodeOf i ∧ opcodeOf i ≤ 0x7A) ∨ opcodeOf i = 0x8B →
    exec i (s.setF (s.f ^^^ (m &&& 0xF0#8))) = exec i s) ∧
  State.reset.f &&& 0xF0#8 = 0#8 ∧ ∀ (v : Byte) (s : State), (applyReset v s).f &&& 0xF0#8 = 0#8

/-- R29, R30, R32: who writes which flags, from which register. That flag updates keep `F[7:4]` and that every other instruction leaves `F` unchanged are the spec's own choice (D4, D19, log 9). -/
def Obligations.FlagEffectsOfEveryInstruction : Prop :=
  ∀ (i : Instr) (s : State), ∃ t, exec i s = .next t ∧
    if 0x02 ≤ opcodeOf i ∧ opcodeOf i ≤ 0x51 then
      ∃ o r v, aluForm i s = some (o, r, v) ∧ SameRegsBut r s t ∧ ∀ k, t.f.getLsbD k =
        if k = 0 then decide (t.reg r = 0#8) else if k = 1 then decide ((t.reg r).toNat < (s.reg r).toNat)
        else if k = 2 then !(t.reg r).getLsbD 7 else s.f.getLsbD k
    else if 0x52 ≤ opcodeOf i ∧ opcodeOf i ≤ 0x5D then
      ∃ r, unaryDest i = some r ∧ SameRegsBut r s t ∧ ∀ k, t.f.getLsbD k =
        if k = 0 then decide (t.reg r = 0#8) else s.f.getLsbD k
    else if opcodeOf i = 0x01 then ∀ k, t.f.getLsbD k = (decide (k = 3) || s.f.getLsbD k)
    else if opcodeOf i = 0x77 then t.f = s.a
    else if opcodeOf i = 0x78 then t.f = s.b
    else if opcodeOf i = 0x79 then t.f = s.c
    else if opcodeOf i = 0x7A then t.f = s.d
    else if opcodeOf i = 0x8B then t.f = s.memRead (s.sp + 1)
    else t.f = s.f

/-- R31, which the spec marks as its own derivation from R29. -/
def Obligations.CarryAfterArithmeticLogic : Prop :=
  ∀ (i : Instr) (s : State) (o : AluOp) (r : Reg) (v : Byte), aluForm i s = some (o, r, v) →
    ∃ t, exec i s = .next t ∧
      match o with
      | .adc =>
        (v.toNat + (s.f.getLsbD 1).toNat = 0 ∨ v.toNat + (s.f.getLsbD 1).toNat = 256 →
          t.reg r = s.reg r ∧ t.f.getLsbD 1 = false) ∧
        (1 ≤ v.toNat + (s.f.getLsbD 1).toNat ∧ v.toNat + (s.f.getLsbD 1).toNat ≤ 255 →
          (t.f.getLsbD 1 = true ↔ 256 ≤ (s.reg r).toNat + (v.toNat + (s.f.getLsbD 1).toNat)))
      | .sbb =>
        (v.toNat + (s.f.getLsbD 1).toNat = 0 ∨ v.toNat + (s.f.getLsbD 1).toNat = 256 →
          t.reg r = s.reg r ∧ t.f.getLsbD 1 = false) ∧
        (1 ≤ v.toNat + (s.f.getLsbD 1).toNat ∧ v.toNat + (s.f.getLsbD 1).toNat ≤ 255 →
          (t.f.getLsbD 1 = true ↔ v.toNat + (s.f.getLsbD 1).toNat ≤ (s.reg r).toNat))
      | .and => t.f.getLsbD 1 = true ↔ t.reg r ≠ s.reg r
      | .or => t.f.getLsbD 1 = false

/-- R33: no instruction loads `SP` with a chosen value. -/
def Obligations.SpMovesOnlyByPushAndPop : Prop :=
  State.reset.sp = 0x7FFF#16 ∧
  ∀ (i : Instr) (s : State), ∃ t, exec i s = .next t ∧
    t.sp = match i with
      | .pushA | .pushB | .pushC | .pushD | .pushF | .pushImm _ | .pushMem _ => s.sp - 1
      | .pushIp => s.sp - 2
      | .popA | .popB | .popC | .popD | .popF | .popDiscard => s.sp + 1
      | .popIp => s.sp + 2
      | _ => s.sp

/-- R35: the instruction pointer after a step. That an illegal opcode leaves `IP` unmoved is the spec's own choice (D6, log 7). -/
def Obligations.IpAfterAStep : Prop :=
  (∀ (s : State) (i : Instr) (rest : List Byte), s.runState = .running → decode (s.bytesAt s.ip 4) = .instr i rest →
    ∃ t, step s = .next t ∧
      t.ip = match i with
        | .jz w => if s.f.getLsbD 0 = true then w else s.ip + 3
        | .jg w => if s.f.getLsbD 2 = true then w else s.ip + 3
        | .jc w => if s.f.getLsbD 1 = true then w else s.ip + 3
        | .popIp => BitVec.ofNat 16 ((s.memRead (s.sp + 2)).toNat * 256 + (s.memRead (s.sp + 1)).toNat)
        | i => s.ip + BitVec.ofNat 16 i.length) ∧
  ∀ s : State, s.runState = .running → 0x93 ≤ (s.memRead s.ip).toNat → ∃ t, step s = .next t ∧ t.ip = s.ip

/-- R81, R82: the instruction-stream reads. -/
def Obligations.FetchPrimitives : Prop :=
  (∀ s : State, fetch8 s = (s.memRead s.ip, { s with ip := s.ip + 1 })) ∧
  (∀ s : State, (fetch16 s).1.toNat = (s.memRead (s.ip + 1)).toNat * 256 + (s.memRead s.ip).toNat ∧
    (fetch16 s).2 = { s with ip := s.ip + 2 }) ∧
  (∀ s : State, (fetch16 s).1 = (fetch8 (fetch8 s).2).1 ++ (fetch8 s).1 ∧ (fetch16 s).2 = (fetch8 (fetch8 s).2).2) ∧
  ∀ s : State, s.bytesAt s.ip 2 = [0x34#8, 0x12#8] → (fetch16 s).1 = 0x1234#16

/-- R57, R58: the byte stack primitives. -/
def Obligations.ByteStackPrimitives : Prop :=
  (∀ (v : Byte) (s : State), StoredOnly s.sp v s (push8 v s) ∧ StoreFrame s (push8 v s) ∧
    (push8 v s).sp = s.sp - 1 ∧ (push8 v s).memRead ((push8 v s).sp + 1) = v) ∧
  ∀ s : State, (pop8 s).1 = s.memRead (s.sp + 1) ∧ (pop8 s).2 = { s with sp := s.sp + 1 }

/-- R59, R60: the 16-bit stack primitives. -/
def Obligations.WordStackRoundTrip : Prop :=
  (∀ (w : Addr) (s : State), (∀ x : Addr, (push16 w s).memRead x = if x = s.sp then w.extractLsb' 8 8
      else if x = s.sp - 1 then w.extractLsb' 0 8 else s.memRead x) ∧ StoreFrame s (push16 w s) ∧
    (push16 w s).sp = s.sp - 2 ∧ push16 w s = push8 (w.extractLsb' 0 8) (push8 (w.extractLsb' 8 8) s)) ∧
  (∀ s : State, (pop16 s).1.toNat = (s.memRead (s.sp + 2)).toNat * 256 + (s.memRead (s.sp + 1)).toNat ∧
    (pop16 s).2 = { s with sp := s.sp + 2 } ∧ (pop16 s).1 = (pop8 (pop8 s).2).1 ++ (pop8 s).1 ∧
    (pop16 s).2 = (pop8 (pop8 s).2).2) ∧
  ∀ (w : Addr) (s : State), (pop16 (push16 w s)).1 = w ∧ (pop16 (push16 w s)).2.sp = s.sp

/-- R61: no stack bound. -/
def Obligations.StackHasNoBounds : Prop :=
  (∀ (v x : Byte) (s : State), s.sp = 0x0000#16 → (push8 v s).sp = 0xFFFF#16 ∧ (push8 v s).memRead 0x0000#16 = v ∧
    (push8 x (push8 v s)).memRead 0xFFFF#16 = x) ∧
  (∀ s : State, s.sp = 0x7FFF#16 → (pop8 s).2.sp = 0x8000#16 ∧ (pop8 s).1 = s.memRead 0x8000#16) ∧
  (∀ (v : Byte) (s : State), s.ip = s.sp → (fetch8 (push8 v s)).1 = v) ∧
  ∀ (i : Instr) (s : State), 0x82 ≤ opcodeOf i → opcodeOf i ≤ 0x90 → ∃ t, exec i s = .next t ∧ t.fault = s.fault

/-- The scenario of R235 and S8 for every byte and register, the pair of R234 and R239, and the pair of R240 and R241. The value `PUSH_IP` stores is the spec's own choice (D14, log 12). -/
def Obligations.PushThenPopRestores : Prop :=
  (∀ (i : Instr) (r : Reg), (i, r) ∈ ([(.popA, .a), (.popB, .b), (.popC, .c), (.popD, .d)] : List (Instr × Reg)) →
    ∀ (v : Byte) (s : State), ∃ t u, exec (.pushImm v) s = .next t ∧ exec i t = .next u ∧ u.reg r = v ∧ u.sp = s.sp ∧
      SameRegsBut r s u ∧ u.f = s.f) ∧
  (∀ s : State, ∃ t u, exec .pushF s = .next t ∧ exec .popF t = .next u ∧ u.f = s.f ∧ u.sp = s.sp ∧ SameRegs s u) ∧
  ∀ s : State, ∃ t u, exec .pushIp s = .next t ∧ exec .popIp t = .next u ∧ u.ip = s.ip ∧ u.sp = s.sp ∧ SameRegs s u ∧
    u.f = s.f

/-- The memory frame of all 147 instructions (R62, R63). -/
def Obligations.MemoryChangesOnlyWhereStored : Prop :=
  ∀ (i : Instr) (s : State), ∃ t, exec i s = .next t ∧
    ∀ x : Addr, x ∉ (match i with
      | .stbMemA ea | .stbMemB ea | .stbMemC ea | .stbMemD ea | .stbMemImm ea _ => [ea]
      | .pushA | .pushB | .pushC | .pushD | .pushF | .pushImm _ | .pushMem _ => [s.sp]
      | .pushIp => [s.sp, s.sp - 1]
      | _ => ([] : List Addr)) → t.memRead x = s.memRead x

/-- A frame over all 147 instructions: registers, `FAULT`, `INSN` (R21, R37, R38). -/
def Obligations.AtMostOneRegisterAndNoLatch : Prop :=
  ∀ (i : Instr) (s : State), ∃ t, exec i s = .next t ∧ t.fault = s.fault ∧ t.insn = s.insn ∧
    (∃ r, SameRegsBut r s t) ∧
    (opcodeOf i ≤ 0x01 ∨ (0x66 ≤ opcodeOf i ∧ opcodeOf i ≤ 0x6A) ∨ (0x77 ≤ opcodeOf i ∧ opcodeOf i ≤ 0x7A) ∨
      (0x7F ≤ opcodeOf i ∧ opcodeOf i ≤ 0x86) ∨ (0x8B ≤ opcodeOf i ∧ opcodeOf i ≤ 0x90) → SameRegs s t)

/-- R53, R64, R68: the memory interface and the step agree. The interface is the spec's own choice (D13, log 14), and so is that a stopped core makes no access (D5, log 7). -/
def Obligations.TransactionsExplainMemory : Prop :=
  ∀ s : State, ∃ t, step s = .next t ∧ (∀ x : Addr, t.memRead x = (replay s (transactions s)).memRead x) ∧
    ∀ (x : Addr) (v : Byte), Transaction.read x v ∈ transactions s → v = s.memRead x

/-- The counts of R68, which the spec marks as derived; the interface is the spec's own choice (D13, log 14). -/
def Obligations.TransactionCounts : Prop :=
  ∀ (s : State) (i : Instr) (rest : List Byte), s.runState = .running → decode (s.bytesAt s.ip 4) = .instr i rest →
    (transactions s).length = transactionTotal i

/-- R66: instruction fetch is coherent with stores, self-modifying code included. -/
def Obligations.StoreIsSeenByTheNextFetch : Prop :=
  ∀ (s t : State) (v : Byte), step s = .next t → Transaction.write t.ip v ∈ transactions s → t.runState = .running →
    ∃ u, step t = .next u ∧ u.insn = v

/-- The round trip of R23 and S4, over every byte, at the level of steps. That a step request in Halted changes nothing is the spec's own choice (D5, log 7). -/
def Obligations.FlagsByteRoundTrip : Prop :=
  ∀ (op op' : Byte) (r q : Reg),
    (op, r) ∈ ([(0x77#8, .a), (0x78#8, .b), (0x79#8, .c), (0x7A#8, .d)] : List (Byte × Reg)) →
    (op', q) ∈ ([(0x7B#8, .a), (0x7C#8, .b), (0x7D#8, .c), (0x7E#8, .d)] : List (Byte × Reg)) →
    ∀ s : State, s.runState = .running → s.bytesAt s.ip 2 = [op, op'] →
      ∃ u, stepMany 2 s = .next u ∧ u.f = s.reg r ∧
        if (s.reg r).getLsbD 3 = true then u.runState = .halted ∧ u.reg q = s.reg q else u.reg q = s.reg r

/-- The endless loop of R227 to R229 and U12: every later step repeats the first. -/
def Obligations.TakenJumpToItselfRunsForever : Prop :=
  ∀ (op : Byte) (k : Nat), (op, k) ∈ ([(0x7F#8, 0), (0x80#8, 2), (0x81#8, 1)] : List (Byte × Nat)) →
    ∀ (s : State) (n : Nat), s.runState = .running → s.f.getLsbD k = true →
      s.bytesAt s.ip 3 = op :: leBytes s.ip → stepMany (n + 1) s = .next (s.latch op)

/-- R250, R288: nothing but `IllegalOpcode` traps, and that is a state. That it is a state with `FAULT` set and that a stopped core does nothing are the spec's own choice (D6, D5, log 7). -/
def Obligations.EveryRunAnswersAState : Prop :=
  ∀ (n : Nat) (s : State), ∃ t, stepMany n s = .next t

/-- R36, R256: Halted and Faulted are terminal for step requests, which is the spec's own choice (D5, D6, log 7). -/
def Obligations.StoppedCoreStaysAsItIs : Prop :=
  ∀ (m n : Nat) (s t : State), stepMany m s = .next t → t.runState ≠ .running → stepMany (m + n) s = .next t

/-- R284: reset in any state. Reset after execution has begun is the spec's own choice (D17, log 13). -/
def Obligations.OnlyResetLeavesAStop : Prop :=
  (∀ (v : Byte) (s : State), ∃ t, respond (.reset v) s = .next t ∧ ResetValues v t ∧ t.mem = s.mem ∧
    t.runState = .running) ∧
  ∀ (q : Request) (s t : State), s.runState ≠ .running → respond q s = .next t → t.runState = .running →
    ∃ v, q = .reset v

/-- R280: the reset operation; `INSN_RESET` stays open (log 1). That reset clears `FAULT` is the spec's own choice (D6, log 7). -/
def Obligations.ResetValuesOfTheMachine : Prop :=
  (∀ (v : Byte) (s : State), ResetValues v (applyReset v s) ∧ SameMemory s (applyReset v s) ∧
    (applyReset v s).mem = s.mem) ∧
  ∃ v, ResetValues v State.reset

/-- The inductive invariant `State.Inv` over every state, not only those reached from reset. The canonical form of memory is the model's choice (log 2); that `FAULT` is set with `IP` unmoved and that a stopped core does nothing are the spec's own choice (D6, D5, log 7). -/
def Obligations.StepKeepsTheInvariant : Prop :=
  ∀ s t : State, s.Inv → step s = .next t → t.Inv

/-- `State.Inv` at reset. The canonical form of memory, and that State.reset lists nothing, are the model's choice (log 2). -/
def Obligations.ResetHasTheInvariant : Prop :=
  State.reset.Inv ∧ ∀ (v : Byte) (s : State), s.mem.wf = true → (applyReset v s).Inv
end

