-- ==== Sys2Proof/Laws/Bytes.lean ====
section
/-! SUPPORT. The bytes of a 16-bit quantity: splitting and joining undo each other. -/

namespace Sys2Proof.Machine

@[simp] theorem highByte_joinBytes (h l : Byte) : highByte (joinBytes h l) = h := by
  ext k hk
  simp only [highByte, joinBytes, BitVec.getElem_extractLsb', BitVec.getLsbD_append]
  have h8 : ¬ (8 + k < 8) := by omega
  simp [h8, hk]

@[simp] theorem lowByte_joinBytes (h l : Byte) : lowByte (joinBytes h l) = l := by
  ext k hk
  simp only [lowByte, joinBytes, BitVec.getElem_extractLsb', BitVec.getLsbD_append]
  simp [hk]

@[simp] theorem joinBytes_highByte_lowByte (w : Addr) : joinBytes (highByte w) (lowByte w) = w := by
  refine BitVec.eq_of_getLsbD_eq fun k hk => ?_
  simp only [highByte, lowByte, joinBytes, BitVec.getLsbD_append, BitVec.getLsbD_extractLsb']
  by_cases h8 : k < 8
  · simp [h8]
  · have h1 : 8 + (k - 8) = k := by omega
    have h2 : k - 8 < 8 := by omega
    simp [h8, h1, h2]

/-- `{h, l}` is `h * 256 + l` (R7). -/
theorem joinBytes_toNat (h l : Byte) : (joinBytes h l).toNat = h.toNat * 256 + l.toNat := by
  have := l.isLt
  simp only [joinBytes, BitVec.toNat_append, Nat.shiftLeft_eq]
  rw [← Nat.mul_comm (2 ^ 8), ← Nat.two_pow_add_eq_or_of_lt l.isLt, Nat.mul_comm]

/-- `zext_16(v)` has the numeric value of `v` (R7). -/
@[simp] theorem zext16_toNat (v : Byte) : (zext16 v).toNat = v.toNat := by
  have := v.isLt
  simp only [zext16, BitVec.toNat_setWidth]
  omega

end Sys2Proof.Machine
end

