-- ==== Sys2Proof/Laws/Flags.lean ====
section
/-! SUPPORT. What each flag computation does to each bit of `F` (R22, R28 to R30). -/

namespace Sys2Proof.Machine

theorem getLsbD_setFlag (f : Byte) (n : Flag) (v : Bool) (k : Nat) :
    (setFlag f n v).getLsbD k = if k = n.bit then v else f.getLsbD k := by
  have hn : n.bit < 8 := by cases n <;> decide
  by_cases hk : k < 8
  · by_cases h : k = n.bit
    · subst h
      cases v <;> simp [setFlag, hk]
    · have hne : ¬ k - n.bit = 0 ∨ k < n.bit := by omega
      cases v <;>
        · simp only [setFlag, h, if_false, if_true, Bool.false_eq_true, BitVec.getLsbD_or, BitVec.getLsbD_and,
            BitVec.getLsbD_not, BitVec.getLsbD_shiftLeft, BitVec.getLsbD_one, hk]
          rcases hne with hne | hne <;> simp [hne]
  · have h : k ≠ n.bit := by omega
    have h8 (x : Byte) : x.getLsbD k = false := BitVec.getLsbD_of_ge x k (by omega)
    rw [if_neg h, h8, h8]

@[simp] theorem getFlag_setFlag (f : Byte) (n m : Flag) (v : Bool) :
    getFlag (setFlag f n v) m = if m = n then v else getFlag f m := by
  simp only [getFlag, getLsbD_setFlag]
  cases n <;> cases m <;> rfl

/-- `SetZCG`, bit by bit (R29). -/
theorem getLsbD_setZCG (f old new : Byte) (k : Nat) :
    (setZCG f old new).getLsbD k =
      if k = 2 then !new.getLsbD 7 else if k = 1 then decide (new.toNat < old.toNat)
      else if k = 0 then decide (new = 0#8) else f.getLsbD k := by
  simp only [setZCG, getLsbD_setFlag, Flag.bit, BitVec.ult]
  rfl

/-- `SetZ`, bit by bit (R30). -/
theorem getLsbD_setZ (f new : Byte) (k : Nat) :
    (setZ f new).getLsbD k = if k = 0 then decide (new = 0#8) else f.getLsbD k := by
  simp only [setZ, getLsbD_setFlag, Flag.bit]
  rfl

/-- `BRK`, bit by bit (R101). -/
theorem getLsbD_setHalt (f : Byte) (k : Nat) :
    (setHalt f).getLsbD k = if k = 3 then true else f.getLsbD k := by
  simp only [setHalt, getLsbD_setFlag, Flag.bit]
  rfl

end Sys2Proof.Machine
end

