-- ==== Sys2Proof/Laws/Memory.lean ====
section
/-! SUPPORT. The memory: a read after a write, and the canonical form. -/

namespace Sys2Proof.Machine

@[simp] theorem Memory.read_nil (a : Nat) : Memory.read [] a = Config.unlistedByte := rfl

theorem Memory.read_erase (m : Memory) (a b : Nat) :
    (m.erase a).read b = if b = a then Config.unlistedByte else m.read b := by
  induction m with
  | nil => simp [Memory.erase]
  | cons c m ih =>
    simp only [Memory.erase] at ih ⊢
    by_cases hc : c.1 = a
    · rw [List.filter_cons_of_neg (by simp [hc]), ih]
      by_cases hb : b = a
      · simp [hb]
      · have : ¬ c.1 = b := by omega
        simp [hb, Memory.read, this]
    · rw [List.filter_cons_of_pos (by simp [hc])]
      by_cases hb : c.1 = b
      · have : ¬ b = a := by omega
        simp [Memory.read, hb, this]
      · simp only [Memory.read, hb, if_false, ih]

theorem Memory.read_insert (m : Memory) (a b : Nat) (v : Byte)
    (hm : ∀ c ∈ m, c.1 ≠ a) : (m.insert a v).read b = if b = a then v else m.read b := by
  induction m with
  | nil => simp [Memory.insert, Memory.read, eq_comm]
  | cons c m ih =>
    have hc : c.1 ≠ a := hm c (by simp)
    by_cases hlt : a < c.1
    · by_cases hb : b = a
      · simp [Memory.insert, hlt, Memory.read, hb]
      · have hb' : ¬ a = b := fun e => hb e.symm
        simp [Memory.insert, hlt, Memory.read, hb, hb']
    · simp only [Memory.insert, hlt, if_false, Memory.read]
      have ih := ih fun e he => hm e (by simp [he])
      by_cases hb : c.1 = b
      · have : ¬ b = a := by omega
        simp [hb, this]
      · simp only [hb, if_false, ih]

theorem Memory.ne_of_mem_erase {m : Memory} {a : Nat} {c : Host.Cell} (h : c ∈ m.erase a) : c.1 ≠ a := by
  simp only [Memory.erase, List.mem_filter, bne_iff_ne] at h
  exact h.2

/-- What a write leaves to be read: its byte at its address, every other byte as before (R51, R53). -/
theorem Memory.read_write (m : Memory) (a b : Nat) (v : Byte) :
    (m.write a v).read b = if b = a then v else m.read b := by
  by_cases hv : v = Config.unlistedByte
  · rw [Memory.write, if_pos hv, Memory.read_erase, hv]
  · rw [Memory.write, if_neg hv, Memory.read_insert _ _ _ _ fun c hc => Memory.ne_of_mem_erase hc,
      Memory.read_erase]
    by_cases hb : b = a <;> simp [hb]

/-- The canonical form, as a proposition. -/
theorem Memory.wf_iff (m : Memory) : m.wf = true ↔
    m.Pairwise (fun c e => c.1 < e.1) ∧ ∀ c ∈ m, c.1 < 65536 ∧ c.2 ≠ Config.unlistedByte := by
  simp [Memory.wf, List.all_eq_true]

@[simp] theorem Memory.wf_nil : Memory.wf [] = true := rfl

theorem Memory.wf_erase {m : Memory} (h : m.wf = true) (a : Nat) : (m.erase a).wf = true := by
  rw [Memory.wf_iff] at h ⊢
  exact ⟨h.1.filter _, fun c hc => h.2 c (List.mem_of_mem_filter hc)⟩

theorem Memory.mem_insert {m : Memory} {a : Nat} {v : Byte} {c : Host.Cell} :
    c ∈ m.insert a v ↔ c = (a, v) ∨ c ∈ m := by
  induction m with
  | nil => simp [Memory.insert]
  | cons e m ih =>
    by_cases h : a < e.1
    · simp [Memory.insert, h]
    · simp only [Memory.insert, h, if_false, List.mem_cons, ih]
      tauto

theorem Memory.wf_insert {m : Memory} (h : m.wf = true) {a : Nat} {v : Byte} (ha : a < 65536)
    (hv : v ≠ Config.unlistedByte) (hm : ∀ c ∈ m, c.1 ≠ a) : (m.insert a v).wf = true := by
  rw [Memory.wf_iff] at h ⊢
  refine ⟨?_, fun c hc => ?_⟩
  · obtain ⟨hp, -⟩ := h
    induction m with
    | nil => simp [Memory.insert]
    | cons e m ih =>
      rw [List.pairwise_cons] at hp
      by_cases hlt : a < e.1
      · simp only [Memory.insert, hlt, if_true, List.pairwise_cons]
        refine ⟨fun c hc => ?_, hp⟩
        rcases List.mem_cons.1 hc with rfl | hc
        · exact hlt
        · exact hlt.trans (hp.1 c hc)
      · simp only [Memory.insert, hlt, if_false, List.pairwise_cons]
        refine ⟨fun c hc => ?_, ih (fun c hc => hm c (by simp [hc])) hp.2⟩
        rcases Memory.mem_insert.1 hc with rfl | hc
        · have := hm e (by simp)
          change e.1 < a
          omega
        · exact hp.1 c hc
  · rcases Memory.mem_insert.1 hc with rfl | hc
    · exact ⟨ha, hv⟩
    · exact h.2 c hc

/-- A write to an address of the space keeps the canonical form. -/
theorem Memory.wf_write {m : Memory} (h : m.wf = true) {a : Nat} (ha : a < 65536) (v : Byte) :
    (m.write a v).wf = true := by
  by_cases hv : v = Config.unlistedByte
  · rw [Memory.write, if_pos hv]
    exact Memory.wf_erase h a
  · rw [Memory.write, if_neg hv]
    exact Memory.wf_insert (Memory.wf_erase h a) ha hv fun c hc => Memory.ne_of_mem_erase hc

/-- `MemRead` after `MemWrite` (R53, R64 (c)). -/
@[simp] theorem State.memRead_memWrite (s : State) (a b : Addr) (v : Byte) :
    (s.memWrite a v).memRead b = if b = a then v else s.memRead b := by
  simp only [State.memRead, State.memWrite, Memory.read_write]
  congr 1
  exact propext ⟨fun h => BitVec.eq_of_toNat_eq h, fun h => by rw [h]⟩

/-- `MemWrite` keeps the canonical form. -/
theorem State.wf_memWrite {s : State} (h : s.mem.wf = true) (a : Addr) (v : Byte) : (s.memWrite a v).mem.wf = true :=
  Memory.wf_write h a.isLt v

/-- Storing a string of bytes keeps the canonical form. -/
theorem State.wf_storeBytes {s : State} (h : s.mem.wf = true) (a : Addr) (bs : List Byte) :
    (s.storeBytes a bs).mem.wf = true := by
  induction bs generalizing s a with
  | nil => exact h
  | cons v vs ih => exact ih (State.wf_memWrite h a v) (a + 1)

end Sys2Proof.Machine
end

