-- ==== Sys2Proof/Laws/State.lean ====
section
/-! SUPPORT. One lemma per field per update of the state. -/

namespace Sys2Proof.Machine

variable (s : State) (r q : Reg) (v : Byte) (w : Addr)

/-! ## One general register -/

@[simp] theorem State.setReg_reg : (s.setReg r v).reg q = if q = r then v else s.reg q := by
  cases r <;> cases q <;> rfl
@[simp] theorem State.setReg_f : (s.setReg r v).f = s.f := by cases r <;> rfl
@[simp] theorem State.setReg_sp : (s.setReg r v).sp = s.sp := by cases r <;> rfl
@[simp] theorem State.setReg_ip : (s.setReg r v).ip = s.ip := by cases r <;> rfl
@[simp] theorem State.setReg_insn : (s.setReg r v).insn = s.insn := by cases r <;> rfl
@[simp] theorem State.setReg_fault : (s.setReg r v).fault = s.fault := by cases r <;> rfl
@[simp] theorem State.setReg_mem : (s.setReg r v).mem = s.mem := by cases r <;> rfl
@[simp] theorem State.setReg_a_a : (s.setReg .a v).a = v := rfl
@[simp] theorem State.setReg_a_b : (s.setReg .a v).b = s.b := rfl
@[simp] theorem State.setReg_a_c : (s.setReg .a v).c = s.c := rfl
@[simp] theorem State.setReg_a_d : (s.setReg .a v).d = s.d := rfl
@[simp] theorem State.setReg_b_a : (s.setReg .b v).a = s.a := rfl
@[simp] theorem State.setReg_b_b : (s.setReg .b v).b = v := rfl
@[simp] theorem State.setReg_b_c : (s.setReg .b v).c = s.c := rfl
@[simp] theorem State.setReg_b_d : (s.setReg .b v).d = s.d := rfl
@[simp] theorem State.setReg_c_a : (s.setReg .c v).a = s.a := rfl
@[simp] theorem State.setReg_c_b : (s.setReg .c v).b = s.b := rfl
@[simp] theorem State.setReg_c_c : (s.setReg .c v).c = v := rfl
@[simp] theorem State.setReg_c_d : (s.setReg .c v).d = s.d := rfl
@[simp] theorem State.setReg_d_a : (s.setReg .d v).a = s.a := rfl
@[simp] theorem State.setReg_d_b : (s.setReg .d v).b = s.b := rfl
@[simp] theorem State.setReg_d_c : (s.setReg .d v).c = s.c := rfl
@[simp] theorem State.setReg_d_d : (s.setReg .d v).d = v := rfl
@[simp] theorem State.setReg_memRead : (s.setReg r v).memRead w = s.memRead w := by cases r <;> rfl
@[simp] theorem State.setReg_runState : (s.setReg r v).runState = s.runState := by cases r <;> rfl

@[simp] theorem State.reg_a : s.reg .a = s.a := rfl
@[simp] theorem State.reg_b : s.reg .b = s.b := rfl
@[simp] theorem State.reg_c : s.reg .c = s.c := rfl
@[simp] theorem State.reg_d : s.reg .d = s.d := rfl

/-! ## `F` -/

@[simp] theorem State.setF_a : (s.setF v).a = s.a := rfl
@[simp] theorem State.setF_b : (s.setF v).b = s.b := rfl
@[simp] theorem State.setF_c : (s.setF v).c = s.c := rfl
@[simp] theorem State.setF_d : (s.setF v).d = s.d := rfl
@[simp] theorem State.setF_f : (s.setF v).f = v := rfl
@[simp] theorem State.setF_sp : (s.setF v).sp = s.sp := rfl
@[simp] theorem State.setF_ip : (s.setF v).ip = s.ip := rfl
@[simp] theorem State.setF_insn : (s.setF v).insn = s.insn := rfl
@[simp] theorem State.setF_fault : (s.setF v).fault = s.fault := rfl
@[simp] theorem State.setF_mem : (s.setF v).mem = s.mem := rfl
@[simp] theorem State.setF_reg : (s.setF v).reg q = s.reg q := by cases q <;> rfl
@[simp] theorem State.setF_memRead (a : Addr) : (s.setF v).memRead a = s.memRead a := rfl

/-! ## `SP` -/

@[simp] theorem State.setSp_a : (s.setSp w).a = s.a := rfl
@[simp] theorem State.setSp_b : (s.setSp w).b = s.b := rfl
@[simp] theorem State.setSp_c : (s.setSp w).c = s.c := rfl
@[simp] theorem State.setSp_d : (s.setSp w).d = s.d := rfl
@[simp] theorem State.setSp_f : (s.setSp w).f = s.f := rfl
@[simp] theorem State.setSp_sp : (s.setSp w).sp = w := rfl
@[simp] theorem State.setSp_ip : (s.setSp w).ip = s.ip := rfl
@[simp] theorem State.setSp_insn : (s.setSp w).insn = s.insn := rfl
@[simp] theorem State.setSp_fault : (s.setSp w).fault = s.fault := rfl
@[simp] theorem State.setSp_mem : (s.setSp w).mem = s.mem := rfl
@[simp] theorem State.setSp_reg : (s.setSp w).reg q = s.reg q := by cases q <;> rfl
@[simp] theorem State.setSp_memRead (a : Addr) : (s.setSp w).memRead a = s.memRead a := rfl
@[simp] theorem State.setSp_runState : (s.setSp w).runState = s.runState := rfl

/-! ## `IP` -/

@[simp] theorem State.setIp_a : (s.setIp w).a = s.a := rfl
@[simp] theorem State.setIp_b : (s.setIp w).b = s.b := rfl
@[simp] theorem State.setIp_c : (s.setIp w).c = s.c := rfl
@[simp] theorem State.setIp_d : (s.setIp w).d = s.d := rfl
@[simp] theorem State.setIp_f : (s.setIp w).f = s.f := rfl
@[simp] theorem State.setIp_sp : (s.setIp w).sp = s.sp := rfl
@[simp] theorem State.setIp_ip : (s.setIp w).ip = w := rfl
@[simp] theorem State.setIp_insn : (s.setIp w).insn = s.insn := rfl
@[simp] theorem State.setIp_fault : (s.setIp w).fault = s.fault := rfl
@[simp] theorem State.setIp_mem : (s.setIp w).mem = s.mem := rfl
@[simp] theorem State.setIp_reg : (s.setIp w).reg q = s.reg q := by cases q <;> rfl
@[simp] theorem State.setIp_memRead (a : Addr) : (s.setIp w).memRead a = s.memRead a := rfl
@[simp] theorem State.setIp_runState : (s.setIp w).runState = s.runState := rfl

/-! ## `INSN` -/

@[simp] theorem State.latch_a : (s.latch v).a = s.a := rfl
@[simp] theorem State.latch_b : (s.latch v).b = s.b := rfl
@[simp] theorem State.latch_c : (s.latch v).c = s.c := rfl
@[simp] theorem State.latch_d : (s.latch v).d = s.d := rfl
@[simp] theorem State.latch_f : (s.latch v).f = s.f := rfl
@[simp] theorem State.latch_sp : (s.latch v).sp = s.sp := rfl
@[simp] theorem State.latch_ip : (s.latch v).ip = s.ip := rfl
@[simp] theorem State.latch_insn : (s.latch v).insn = v := rfl
@[simp] theorem State.latch_fault : (s.latch v).fault = s.fault := rfl
@[simp] theorem State.latch_mem : (s.latch v).mem = s.mem := rfl
@[simp] theorem State.latch_reg : (s.latch v).reg q = s.reg q := by cases q <;> rfl
@[simp] theorem State.latch_memRead (a : Addr) : (s.latch v).memRead a = s.memRead a := rfl
@[simp] theorem State.latch_runState : (s.latch v).runState = s.runState := rfl

/-! ## one byte of memory -/

@[simp] theorem State.memWrite_a : (s.memWrite w v).a = s.a := rfl
@[simp] theorem State.memWrite_b : (s.memWrite w v).b = s.b := rfl
@[simp] theorem State.memWrite_c : (s.memWrite w v).c = s.c := rfl
@[simp] theorem State.memWrite_d : (s.memWrite w v).d = s.d := rfl
@[simp] theorem State.memWrite_f : (s.memWrite w v).f = s.f := rfl
@[simp] theorem State.memWrite_sp : (s.memWrite w v).sp = s.sp := rfl
@[simp] theorem State.memWrite_ip : (s.memWrite w v).ip = s.ip := rfl
@[simp] theorem State.memWrite_insn : (s.memWrite w v).insn = s.insn := rfl
@[simp] theorem State.memWrite_fault : (s.memWrite w v).fault = s.fault := rfl
@[simp] theorem State.memWrite_mem : (s.memWrite w v).mem = s.mem.write w.toNat v := rfl
@[simp] theorem State.memWrite_reg : (s.memWrite w v).reg q = s.reg q := by cases q <;> rfl
@[simp] theorem State.memWrite_runState : (s.memWrite w v).runState = s.runState := rfl

/-! ## Named flags -/

@[simp] theorem State.setReg_flag (n : Flag) : (s.setReg r v).flag n = s.flag n := by cases r <;> rfl
@[simp] theorem State.setF_flag (n : Flag) : (s.setF v).flag n = getFlag v n := rfl
@[simp] theorem State.setSp_flag (n : Flag) : (s.setSp w).flag n = s.flag n := rfl
@[simp] theorem State.setIp_flag (n : Flag) : (s.setIp w).flag n = s.flag n := rfl
@[simp] theorem State.latch_flag (n : Flag) : (s.latch v).flag n = s.flag n := rfl
@[simp] theorem State.memWrite_flag (n : Flag) : (s.memWrite w v).flag n = s.flag n := rfl

/-! ## The exception and reset -/

@[simp] theorem raiseIllegalOpcode_a : (raiseIllegalOpcode v s).a = s.a := rfl
@[simp] theorem raiseIllegalOpcode_b : (raiseIllegalOpcode v s).b = s.b := rfl
@[simp] theorem raiseIllegalOpcode_c : (raiseIllegalOpcode v s).c = s.c := rfl
@[simp] theorem raiseIllegalOpcode_d : (raiseIllegalOpcode v s).d = s.d := rfl
@[simp] theorem raiseIllegalOpcode_f : (raiseIllegalOpcode v s).f = s.f := rfl
@[simp] theorem raiseIllegalOpcode_sp : (raiseIllegalOpcode v s).sp = s.sp := rfl
@[simp] theorem raiseIllegalOpcode_ip : (raiseIllegalOpcode v s).ip = s.ip := rfl
@[simp] theorem raiseIllegalOpcode_insn : (raiseIllegalOpcode v s).insn = v := rfl
@[simp] theorem raiseIllegalOpcode_fault : (raiseIllegalOpcode v s).fault = true := rfl
@[simp] theorem raiseIllegalOpcode_mem : (raiseIllegalOpcode v s).mem = s.mem := rfl
@[simp] theorem raiseIllegalOpcode_memRead : (raiseIllegalOpcode v s).memRead w = s.memRead w := rfl
@[simp] theorem raiseIllegalOpcode_runState : (raiseIllegalOpcode v s).runState = .faulted := rfl

theorem applyReset_eq : applyReset v s = { State.reset with insn := v, mem := s.mem } := rfl
@[simp] theorem applyReset_memRead : (applyReset v s).memRead w = s.memRead w := rfl

end Sys2Proof.Machine
end

