-- ==== Sys2Proof/Laws/Ops.lean ====
section
/-! SUPPORT. One lemma per shared operation, saying all it does, to be cited instead of unfolding it. -/

namespace Sys2Proof.Machine

/-! ## Run state -/

theorem State.runState_eq_running (s : State) :
    s.runState = .running ↔ s.fault = false ∧ s.f.getLsbD 3 = false := by
  simp only [State.runState, State.flag, getFlag, Flag.bit]
  cases s.fault <;> by_cases h : s.f.getLsbD 3 = true <;> simp [h]

theorem State.runState_eq_halted (s : State) :
    s.runState = .halted ↔ s.fault = false ∧ s.f.getLsbD 3 = true := by
  simp only [State.runState, State.flag, getFlag, Flag.bit]
  cases s.fault <;> by_cases h : s.f.getLsbD 3 = true <;> simp [h]

theorem State.runState_eq_faulted (s : State) : s.runState = .faulted ↔ s.fault = true := by
  simp only [State.runState]
  cases s.fault <;> by_cases h : s.flag .halt = true <;> simp [h]

/-! ## Fetch and stack primitives -/

theorem fetch8_eq (s : State) : fetch8 s = (s.memRead s.ip, s.setIp (s.ip + 1)) := rfl

theorem fetch16_eq (s : State) :
    fetch16 s = (joinBytes (s.memRead (s.ip + 1)) (s.memRead s.ip), s.setIp (s.ip + 2)) := by
  have h : s.ip + 1 + 1 = s.ip + 2 := by rw [BitVec.add_assoc]; rfl
  show (_, (s.setIp (s.ip + 1)).setIp (s.ip + 1 + 1)) = _
  rw [h]
  rfl

theorem push8_eq (v : Byte) (s : State) : push8 v s = (s.memWrite s.sp v).setSp (s.sp - 1) := rfl

theorem pop8_eq (s : State) : pop8 s = (s.memRead (s.sp + 1), s.setSp (s.sp + 1)) := rfl

theorem push16_eq (w : Addr) (s : State) : push16 w s =
    ((s.memWrite s.sp (highByte w)).memWrite (s.sp - 1) (lowByte w)).setSp (s.sp - 2) := by
  have h : s.sp - 1 - 1 = s.sp - 2 := by bv_omega
  show (State.memWrite _ (s.sp - 1) (lowByte w)).setSp (s.sp - 1 - 1) = _
  rw [h]
  rfl

theorem pop16_eq (s : State) :
    pop16 s = (joinBytes (s.memRead (s.sp + 2)) (s.memRead (s.sp + 1)), s.setSp (s.sp + 2)) := by
  have h : s.sp + 1 + 1 = s.sp + 2 := by rw [BitVec.add_assoc]; rfl
  show (joinBytes (s.memRead (s.sp + 1 + 1)) _, (s.setSp (s.sp + 1)).setSp (s.sp + 1 + 1)) = _
  rw [h]
  rfl

theorem popReg_eq (r : Reg) (s : State) :
    popReg r s = (s.setSp (s.sp + 1)).setReg r (s.memRead (s.sp + 1)) := rfl

/-! ## Arithmetic -/

theorem adcResult_toNat (old v : Byte) (c : Bool) :
    (adcResult old v c).toNat = (old.toNat + v.toNat + c.toNat) % 256 := by
  simp [adcResult]

theorem sbbResult_toNat (old v : Byte) (c : Bool) :
    ((sbbResult old v c).toNat : Int) = ((old.toNat : Int) - v.toNat - c.toNat) % 256 := by
  simp only [sbbResult, BitVec.toNat_ofInt]
  omega

theorem notResult_eq (x : Byte) : notResult x = ~~~x := by
  have := x.isLt
  apply BitVec.eq_of_toNat_eq
  simp only [notResult, BitVec.toNat_ofNat, BitVec.toNat_not]
  omega

theorem shlResult_toNat (x n : Byte) :
    (shlResult x n).toNat = if 8 ≤ n.toNat then 0 else x.toNat * 2 ^ n.toNat % 256 := by
  by_cases h : 8 ≤ n.toNat <;> simp [shlResult, h]

theorem shrResult_toNat (x n : Byte) :
    (shrResult x n).toNat = if 8 ≤ n.toNat then 0 else x.toNat / 2 ^ n.toNat := by
  have := x.isLt
  by_cases h : 8 ≤ n.toNat
  · simp [shrResult, h]
  · have := Nat.div_le_self x.toNat (2 ^ n.toNat)
    rw [shrResult, if_neg h, if_neg h, BitVec.toNat_ofNat, Nat.mod_eq_of_lt (by omega)]

/-! ## The two ends of an operation: the register, the flag byte, and nothing else -/

theorem writeAlu_eq (r : Reg) (new : Byte) (s : State) :
    writeAlu r new s = (s.setReg r new).setF (setZCG s.f (s.reg r) new) := rfl

theorem writeUnary_eq (r : Reg) (new : Byte) (s : State) :
    writeUnary r new s = (s.setReg r new).setF (setZ s.f new) := rfl

theorem jumpIf_eq (n : Flag) (t : Addr) (s : State) :
    jumpIf n t s = s.setIp (if s.flag n then t else s.ip) := by
  unfold jumpIf
  split <;> rfl

theorem derefPair_eq (hi lo : Reg) (s : State) :
    derefPair hi lo s = s.setReg lo (s.memRead (joinBytes (s.reg hi) (s.reg lo))) := rfl

/-! ## Fetching an instruction -/

/-- Fetching operands moves `IP` and nothing else. -/
theorem fetchOperands_frame (t : Template) (s : State) : ∃ w, (fetchOperands t s).2 = s.setIp w := by
  cases t with
  | f0 i => exact ⟨s.ip, rfl⟩
  | fi mk => exact ⟨s.ip + 1, rfl⟩
  | fz mk => exact ⟨s.ip + 1, rfl⟩
  | fa mk => exact ⟨s.ip + 2, by simp [fetchOperands, fetch16_eq]⟩
  | fai mk => exact ⟨s.ip + 2 + 1, by simp only [fetchOperands, fetch16_eq]; rfl⟩

/-- What a fetch can answer: an illegal byte, or an instruction with `INSN` latched and `IP` moved, nothing else. -/
theorem fetchInstr_cases (s : State) :
    (opcodeMap (s.memRead s.ip) = none ∧ fetchInstr s = .illegal (s.memRead s.ip)) ∨
    ∃ t i w, opcodeMap (s.memRead s.ip) = some t ∧
      i = (fetchOperands t ((s.latch (s.memRead s.ip)).setIp (s.ip + 1))).1 ∧
      fetchInstr s = .instr i ((s.latch (s.memRead s.ip)).setIp w) := by
  unfold fetchInstr
  cases h : opcodeMap (s.memRead s.ip) with
  | none => exact .inl ⟨rfl, by simp [h]⟩
  | some t =>
    obtain ⟨w, hw⟩ := fetchOperands_frame t ((s.latch (s.memRead s.ip)).setIp (s.ip + 1))
    refine .inr ⟨t, _, w, rfl, rfl, ?_⟩
    simp only [h, hw]
    rfl

end Sys2Proof.Machine
end

