-- ==== Sys2Proof/Laws/PerInstr.lean ====
section
/-! SUPPORT. Statements about every instruction, one lemma per constructor. -/

namespace Sys2Proof.Laws.EncodedLength

/-- An instruction is encoded in as many bytes as its format has (R80). -/
def Statement (i : Instr) : Prop := i.fits (encode i) = true

theorem nop : Statement .nop := rfl
theorem brk : Statement .brk := rfl
theorem adcAB : Statement .adcAB := rfl
theorem adcAC : Statement .adcAC := rfl
theorem adcAD : Statement .adcAD := rfl
theorem adcBA : Statement .adcBA := rfl
theorem adcBC : Statement .adcBC := rfl
theorem adcBD : Statement .adcBD := rfl
theorem adcCA : Statement .adcCA := rfl
theorem adcCB : Statement .adcCB := rfl
theorem adcCD : Statement .adcCD := rfl
theorem adcDA : Statement .adcDA := rfl
theorem adcDB : Statement .adcDB := rfl
theorem adcDC : Statement .adcDC := rfl
theorem adcAImm (x : Byte) : Statement (.adcAImm x) := rfl
theorem adcBImm (x : Byte) : Statement (.adcBImm x) := rfl
theorem adcCImm (x : Byte) : Statement (.adcCImm x) := rfl
theorem adcDImm (x : Byte) : Statement (.adcDImm x) := rfl
theorem adcAMem (x : Addr) : Statement (.adcAMem x) := rfl
theorem adcBMem (x : Addr) : Statement (.adcBMem x) := rfl
theorem adcCMem (x : Addr) : Statement (.adcCMem x) := rfl
theorem adcDMem (x : Addr) : Statement (.adcDMem x) := rfl
theorem sbbAB : Statement .sbbAB := rfl
theorem sbbAC : Statement .sbbAC := rfl
theorem sbbAD : Statement .sbbAD := rfl
theorem sbbBA : Statement .sbbBA := rfl
theorem sbbBC : Statement .sbbBC := rfl
theorem sbbBD : Statement .sbbBD := rfl
theorem sbbCA : Statement .sbbCA := rfl
theorem sbbCB : Statement .sbbCB := rfl
theorem sbbCD : Statement .sbbCD := rfl
theorem sbbDA : Statement .sbbDA := rfl
theorem sbbDB : Statement .sbbDB := rfl
theorem sbbDC : Statement .sbbDC := rfl
theorem sbbAImm (x : Byte) : Statement (.sbbAImm x) := rfl
theorem sbbBImm (x : Byte) : Statement (.sbbBImm x) := rfl
theorem sbbCImm (x : Byte) : Statement (.sbbCImm x) := rfl
theorem sbbDImm (x : Byte) : Statement (.sbbDImm x) := rfl
theorem sbbAMem (x : Addr) : Statement (.sbbAMem x) := rfl
theorem sbbBMem (x : Addr) : Statement (.sbbBMem x) := rfl
theorem sbbCMem (x : Addr) : Statement (.sbbCMem x) := rfl
theorem sbbDMem (x : Addr) : Statement (.sbbDMem x) := rfl
theorem andAB : Statement .andAB := rfl
theorem andAC : Statement .andAC := rfl
theorem andAD : Statement .andAD := rfl
theorem andBA : Statement .andBA := rfl
theorem andBC : Statement .andBC := rfl
theorem andBD : Statement .andBD := rfl
theorem andCA : Statement .andCA := rfl
theorem andCB : Statement .andCB := rfl
theorem andCD : Statement .andCD := rfl
theorem andDA : Statement .andDA := rfl
theorem andDB : Statement .andDB := rfl
theorem andDC : Statement .andDC := rfl
theorem andAImm (x : Byte) : Statement (.andAImm x) := rfl
theorem andBImm (x : Byte) : Statement (.andBImm x) := rfl
theorem andCImm (x : Byte) : Statement (.andCImm x) := rfl
theorem andDImm (x : Byte) : Statement (.andDImm x) := rfl
theorem andAMem (x : Addr) : Statement (.andAMem x) := rfl
theorem andBMem (x : Addr) : Statement (.andBMem x) := rfl
theorem andCMem (x : Addr) : Statement (.andCMem x) := rfl
theorem andDMem (x : Addr) : Statement (.andDMem x) := rfl
theorem orAB : Statement .orAB := rfl
theorem orAC : Statement .orAC := rfl
theorem orAD : Statement .orAD := rfl
theorem orBA : Statement .orBA := rfl
theorem orBC : Statement .orBC := rfl
theorem orBD : Statement .orBD := rfl
theorem orCA : Statement .orCA := rfl
theorem orCB : Statement .orCB := rfl
theorem orCD : Statement .orCD := rfl
theorem orDA : Statement .orDA := rfl
theorem orDB : Statement .orDB := rfl
theorem orDC : Statement .orDC := rfl
theorem orAImm (x : Byte) : Statement (.orAImm x) := rfl
theorem orBImm (x : Byte) : Statement (.orBImm x) := rfl
theorem orCImm (x : Byte) : Statement (.orCImm x) := rfl
theorem orDImm (x : Byte) : Statement (.orDImm x) := rfl
theorem orAMem (x : Addr) : Statement (.orAMem x) := rfl
theorem orBMem (x : Addr) : Statement (.orBMem x) := rfl
theorem orCMem (x : Addr) : Statement (.orCMem x) := rfl
theorem orDMem (x : Addr) : Statement (.orDMem x) := rfl
theorem notA : Statement .notA := rfl
theorem notB : Statement .notB := rfl
theorem notC : Statement .notC := rfl
theorem notD : Statement .notD := rfl
theorem shlAImm (x : Byte) : Statement (.shlAImm x) := rfl
theorem shlBImm (x : Byte) : Statement (.shlBImm x) := rfl
theorem shlCImm (x : Byte) : Statement (.shlCImm x) := rfl
theorem shlDImm (x : Byte) : Statement (.shlDImm x) := rfl
theorem shrAImm (x : Byte) : Statement (.shrAImm x) := rfl
theorem shrBImm (x : Byte) : Statement (.shrBImm x) := rfl
theorem shrCImm (x : Byte) : Statement (.shrCImm x) := rfl
theorem shrDImm (x : Byte) : Statement (.shrDImm x) := rfl
theorem ldbAImm (x : Byte) : Statement (.ldbAImm x) := rfl
theorem ldbBImm (x : Byte) : Statement (.ldbBImm x) := rfl
theorem ldbCImm (x : Byte) : Statement (.ldbCImm x) := rfl
theorem ldbDImm (x : Byte) : Statement (.ldbDImm x) := rfl
theorem ldbAMem (x : Addr) : Statement (.ldbAMem x) := rfl
theorem ldbBMem (x : Addr) : Statement (.ldbBMem x) := rfl
theorem ldbCMem (x : Addr) : Statement (.ldbCMem x) := rfl
theorem ldbDMem (x : Addr) : Statement (.ldbDMem x) := rfl
theorem stbMemA (x : Addr) : Statement (.stbMemA x) := rfl
theorem stbMemB (x : Addr) : Statement (.stbMemB x) := rfl
theorem stbMemC (x : Addr) : Statement (.stbMemC x) := rfl
theorem stbMemD (x : Addr) : Statement (.stbMemD x) := rfl
theorem stbMemImm (x : Addr) (y : Byte) : Statement (.stbMemImm x y) := rfl
theorem mvbAB : Statement .mvbAB := rfl
theorem mvbAC : Statement .mvbAC := rfl
theorem mvbAD : Statement .mvbAD := rfl
theorem mvbBA : Statement .mvbBA := rfl
theorem mvbBC : Statement .mvbBC := rfl
theorem mvbBD : Statement .mvbBD := rfl
theorem mvbCA : Statement .mvbCA := rfl
theorem mvbCB : Statement .mvbCB := rfl
theorem mvbCD : Statement .mvbCD := rfl
theorem mvbDA : Statement .mvbDA := rfl
theorem mvbDB : Statement .mvbDB := rfl
theorem mvbDC : Statement .mvbDC := rfl
theorem mvbFA : Statement .mvbFA := rfl
theorem mvbFB : Statement .mvbFB := rfl
theorem mvbFC : Statement .mvbFC := rfl
theorem mvbFD : Statement .mvbFD := rfl
theorem mvbAF : Statement .mvbAF := rfl
theorem mvbBF : Statement .mvbBF := rfl
theorem mvbCF : Statement .mvbCF := rfl
theorem mvbDF : Statement .mvbDF := rfl
theorem jz (x : Addr) : Statement (.jz x) := rfl
theorem jg (x : Addr) : Statement (.jg x) := rfl
theorem jc (x : Addr) : Statement (.jc x) := rfl
theorem pushA : Statement .pushA := rfl
theorem pushB : Statement .pushB := rfl
theorem pushC : Statement .pushC := rfl
theorem pushD : Statement .pushD := rfl
theorem pushF : Statement .pushF := rfl
theorem popA : Statement .popA := rfl
theorem popB : Statement .popB := rfl
theorem popC : Statement .popC := rfl
theorem popD : Statement .popD := rfl
theorem popF : Statement .popF := rfl
theorem pushIp : Statement .pushIp := rfl
theorem popIp : Statement .popIp := rfl
theorem popDiscard : Statement .popDiscard := rfl
theorem pushImm (x : Byte) : Statement (.pushImm x) := rfl
theorem pushMem (x : Byte) : Statement (.pushMem x) := rfl
theorem derefAB : Statement .derefAB := rfl
theorem derefCD : Statement .derefCD := rfl

end Sys2Proof.Laws.EncodedLength
end

