-- ==== Sys2Proof/Laws/Step.lean ====
section
/-! SUPPORT. What a step can do, said once. -/

namespace Sys2Proof.Machine

theorem step_of_not_running {s : State} (h : s.runState ≠ .running) : step s = .next s := by
  unfold step
  cases hs : s.runState with
  | running => exact absurd hs h
  | halted => rfl
  | faulted => rfl

theorem step_of_instr {s s' : State} {i : Instr} (h : s.runState = .running) (hf : fetchInstr s = .instr i s') :
    step s = exec i s' := by
  simp only [step, h, hf]

theorem step_of_illegal {s : State} {op : Byte} (h : s.runState = .running) (hf : fetchInstr s = .illegal op) :
    step s = .next (raiseIllegalOpcode op s) := by
  simp only [step, h, hf]

/-- If a step answers a next state, the core was stopped, or took the exception, or ran the instruction it fetched. -/
theorem step_cases {s t : State} (h : step s = .next t) :
    (s.runState ≠ .running ∧ t = s) ∨
    (s.runState = .running ∧ ∃ op, fetchInstr s = .illegal op ∧ t = raiseIllegalOpcode op s) ∨
    (s.runState = .running ∧ ∃ i s', fetchInstr s = .instr i s' ∧ exec i s' = .next t) := by
  by_cases hr : s.runState = .running
  · cases hf : fetchInstr s with
    | instr i s' =>
      rw [step_of_instr hr hf] at h
      exact .inr (.inr ⟨hr, i, s', rfl, h⟩)
    | illegal op =>
      rw [step_of_illegal hr hf] at h
      injection h with h
      exact .inr (.inl ⟨hr, op, rfl, h.symm⟩)
  · rw [step_of_not_running hr] at h
    injection h with h
    exact .inl ⟨hr, h.symm⟩

@[simp] theorem stepMany_zero (s : State) : stepMany 0 s = .next s := rfl

theorem stepMany_succ {s t : State} (k : Nat) (h : step s = .next t) : stepMany (k + 1) s = stepMany k t := by
  have h' : Sys2Proof.core.step s = .next t := h
  simp only [stepMany, Host.Core.run, h']
  rfl

end Sys2Proof.Machine
end

