-- ==== Sys2Proof/Tests/Slice0.lean ====
section
/-! SUPPORT. Tests, every expected result taken from spec/: the decoding of every opcode (spec/30_encoding.md R80, R85), the
worked example of every rule R100 to R246, and a witness for the hypotheses of every statement. -/

namespace Sys2Proof.Tests

open Sys2Proof.Machine Sys2Proof.Claims

/-- `s` with `bs` stored from `IP` on. -/
def prog (s : State) (bs : List Byte) : State := s.storeBytes s.ip bs

/-- The reset state with a program at the entry point. -/
def boot (bs : List Byte) : State := prog State.reset bs

/-- One step of `s` with `bs` at `IP` answers a next state with `p`. -/
def after (s : State) (bs : List Byte) (p : State → Bool) : Bool :=
  match step (prog s bs) with
  | .next t => p t
  | .fault _ => false
  | .refused _ => false

/-- Every pair's bytes decode to exactly its instruction. -/
def decodes (ps : List (List Byte × Instr)) : Bool := ps.all fun p => decide (decode p.1 = .instr p.2 [])

/-- The hypotheses of `RunsAs`: Running, with `bs` at `IP`. -/
abbrev ready (s : State) (bs : List Byte) : Prop := s.runState = .running ∧ s.bytesAt s.ip bs.length = bs

/-! ## Well-formedness -/

/-- Every byte of an instruction is needed and no byte more (R80). -/
theorem test_fits : Instr.fits .nop [] = false ∧ Instr.fits .nop [0x00#8, 0x00#8] = false ∧
    Instr.fits (.adcAImm 0x01#8) [0x0E#8] = false ∧ Instr.fits (.jz 0x9000#16) [0x7F#8, 0x00#8] = false ∧
    Instr.fits (.stbMemImm 0x1234#16 0x5A#8) [0x6A#8, 0x34#8, 0x12#8] = false ∧
    Instr.fits (.stbMemImm 0x1234#16 0x5A#8) [0x6A#8, 0x34#8, 0x12#8, 0x5A#8] = true := by decide

/-- No operand value is ill formed (R86, R87). -/
theorem test_wellFormed : Instr.wellFormed (.adcAImm 0xFF#8) = true ∧ Instr.wellFormed (.jc 0xFFFF#16) = true := by
  decide

/-- The memory form refuses unordered, repeated, too high and redundant entries. -/
theorem test_memory_wf : Memory.wf [(2, 0x01#8), (1, 0x01#8)] = false ∧ Memory.wf [(1, 0x01#8), (1, 0x02#8)] = false ∧
    Memory.wf [(65536, 0x01#8)] = false ∧ Memory.wf [(1, Config.unlistedByte)] = false ∧
    Memory.wf [(1, 0x01#8), (65535, 0x02#8)] = true := by decide

/-- Bytes the decoder rejects by name (R80, R86). -/
theorem test_decode_rejects : decode [] = .rejected .noBytes ∧ decode [0x93#8] = .rejected (.illegalOpcode 0x93#8) ∧
    decode [0xFF#8, 0x00#8] = .rejected (.illegalOpcode 0xFF#8) ∧ decode [0x0E#8] = .rejected (.truncated 0x0E#8) ∧
    decode [0x6A#8, 0x34#8, 0x12#8] = .rejected (.truncated 0x6A#8) := by decide

/-! ## Every constructor's word, from the opcode table of R85 -/

theorem test_decode_nop_halt : decodes [
    ([0x00#8], .nop), ([0x01#8], .brk)] = true := by decide

theorem test_decode_adc : decodes [
    ([0x02#8], .adcAB), ([0x03#8], .adcAC), ([0x04#8], .adcAD), ([0x05#8], .adcBA), ([0x06#8], .adcBC),
    ([0x07#8], .adcBD), ([0x08#8], .adcCA), ([0x09#8], .adcCB), ([0x0A#8], .adcCD), ([0x0B#8], .adcDA),
    ([0x0C#8], .adcDB), ([0x0D#8], .adcDC), ([0x0E#8, 0xA5#8], .adcAImm 0xA5#8),
    ([0x0F#8, 0xA5#8], .adcBImm 0xA5#8), ([0x10#8, 0xA5#8], .adcCImm 0xA5#8),
    ([0x11#8, 0xA5#8], .adcDImm 0xA5#8), ([0x12#8, 0x34#8, 0x92#8], .adcAMem 0x9234#16),
    ([0x13#8, 0x34#8, 0x92#8], .adcBMem 0x9234#16), ([0x14#8, 0x34#8, 0x92#8], .adcCMem 0x9234#16),
    ([0x15#8, 0x34#8, 0x92#8], .adcDMem 0x9234#16)] = true := by decide

theorem test_decode_sbb : decodes [
    ([0x16#8], .sbbAB), ([0x17#8], .sbbAC), ([0x18#8], .sbbAD), ([0x19#8], .sbbBA), ([0x1A#8], .sbbBC),
    ([0x1B#8], .sbbBD), ([0x1C#8], .sbbCA), ([0x1D#8], .sbbCB), ([0x1E#8], .sbbCD), ([0x1F#8], .sbbDA),
    ([0x20#8], .sbbDB), ([0x21#8], .sbbDC), ([0x22#8, 0xA5#8], .sbbAImm 0xA5#8),
    ([0x23#8, 0xA5#8], .sbbBImm 0xA5#8), ([0x24#8, 0xA5#8], .sbbCImm 0xA5#8),
    ([0x25#8, 0xA5#8], .sbbDImm 0xA5#8), ([0x26#8, 0x34#8, 0x92#8], .sbbAMem 0x9234#16),
    ([0x27#8, 0x34#8, 0x92#8], .sbbBMem 0x9234#16), ([0x28#8, 0x34#8, 0x92#8], .sbbCMem 0x9234#16),
    ([0x29#8, 0x34#8, 0x92#8], .sbbDMem 0x9234#16)] = true := by decide

theorem test_decode_and : decodes [
    ([0x2A#8], .andAB), ([0x2B#8], .andAC), ([0x2C#8], .andAD), ([0x2D#8], .andBA), ([0x2E#8], .andBC),
    ([0x2F#8], .andBD), ([0x30#8], .andCA), ([0x31#8], .andCB), ([0x32#8], .andCD), ([0x33#8], .andDA),
    ([0x34#8], .andDB), ([0x35#8], .andDC), ([0x36#8, 0xA5#8], .andAImm 0xA5#8),
    ([0x37#8, 0xA5#8], .andBImm 0xA5#8), ([0x38#8, 0xA5#8], .andCImm 0xA5#8),
    ([0x39#8, 0xA5#8], .andDImm 0xA5#8), ([0x3A#8, 0x34#8, 0x92#8], .andAMem 0x9234#16),
    ([0x3B#8, 0x34#8, 0x92#8], .andBMem 0x9234#16), ([0x3C#8, 0x34#8, 0x92#8], .andCMem 0x9234#16),
    ([0x3D#8, 0x34#8, 0x92#8], .andDMem 0x9234#16)] = true := by decide

theorem test_decode_or : decodes [
    ([0x3E#8], .orAB), ([0x3F#8], .orAC), ([0x40#8], .orAD), ([0x41#8], .orBA), ([0x42#8], .orBC),
    ([0x43#8], .orBD), ([0x44#8], .orCA), ([0x45#8], .orCB), ([0x46#8], .orCD), ([0x47#8], .orDA),
    ([0x48#8], .orDB), ([0x49#8], .orDC), ([0x4A#8, 0xA5#8], .orAImm 0xA5#8),
    ([0x4B#8, 0xA5#8], .orBImm 0xA5#8), ([0x4C#8, 0xA5#8], .orCImm 0xA5#8), ([0x4D#8, 0xA5#8], .orDImm 0xA5#8),
    ([0x4E#8, 0x34#8, 0x92#8], .orAMem 0x9234#16), ([0x4F#8, 0x34#8, 0x92#8], .orBMem 0x9234#16),
    ([0x50#8, 0x34#8, 0x92#8], .orCMem 0x9234#16), ([0x51#8, 0x34#8, 0x92#8], .orDMem 0x9234#16)] = true := by decide

theorem test_decode_not_shift : decodes [
    ([0x52#8], .notA), ([0x53#8], .notB), ([0x54#8], .notC), ([0x55#8], .notD),
    ([0x56#8, 0xA5#8], .shlAImm 0xA5#8), ([0x57#8, 0xA5#8], .shlBImm 0xA5#8),
    ([0x58#8, 0xA5#8], .shlCImm 0xA5#8), ([0x59#8, 0xA5#8], .shlDImm 0xA5#8),
    ([0x5A#8, 0xA5#8], .shrAImm 0xA5#8), ([0x5B#8, 0xA5#8], .shrBImm 0xA5#8),
    ([0x5C#8, 0xA5#8], .shrCImm 0xA5#8), ([0x5D#8, 0xA5#8], .shrDImm 0xA5#8)] = true := by decide

theorem test_decode_load_store_move : decodes [
    ([0x5E#8, 0xA5#8], .ldbAImm 0xA5#8), ([0x5F#8, 0xA5#8], .ldbBImm 0xA5#8),
    ([0x60#8, 0xA5#8], .ldbCImm 0xA5#8), ([0x61#8, 0xA5#8], .ldbDImm 0xA5#8),
    ([0x62#8, 0x34#8, 0x92#8], .ldbAMem 0x9234#16), ([0x63#8, 0x34#8, 0x92#8], .ldbBMem 0x9234#16),
    ([0x64#8, 0x34#8, 0x92#8], .ldbCMem 0x9234#16), ([0x65#8, 0x34#8, 0x92#8], .ldbDMem 0x9234#16),
    ([0x66#8, 0x34#8, 0x92#8], .stbMemA 0x9234#16), ([0x67#8, 0x34#8, 0x92#8], .stbMemB 0x9234#16),
    ([0x68#8, 0x34#8, 0x92#8], .stbMemC 0x9234#16), ([0x69#8, 0x34#8, 0x92#8], .stbMemD 0x9234#16),
    ([0x6A#8, 0x34#8, 0x92#8, 0xA5#8], .stbMemImm 0x9234#16 0xA5#8), ([0x6B#8], .mvbAB), ([0x6C#8], .mvbAC),
    ([0x6D#8], .mvbAD), ([0x6E#8], .mvbBA), ([0x6F#8], .mvbBC), ([0x70#8], .mvbBD), ([0x71#8], .mvbCA),
    ([0x72#8], .mvbCB), ([0x73#8], .mvbCD), ([0x74#8], .mvbDA), ([0x75#8], .mvbDB), ([0x76#8], .mvbDC),
    ([0x77#8], .mvbFA), ([0x78#8], .mvbFB), ([0x79#8], .mvbFC), ([0x7A#8], .mvbFD), ([0x7B#8], .mvbAF),
    ([0x7C#8], .mvbBF), ([0x7D#8], .mvbCF), ([0x7E#8], .mvbDF)] = true := by decide

theorem test_decode_jump : decodes [
    ([0x7F#8, 0x34#8, 0x92#8], .jz 0x9234#16), ([0x80#8, 0x34#8, 0x92#8], .jg 0x9234#16),
    ([0x81#8, 0x34#8, 0x92#8], .jc 0x9234#16)] = true := by decide

theorem test_decode_stack : decodes [
    ([0x82#8], .pushA), ([0x83#8], .pushB), ([0x84#8], .pushC), ([0x85#8], .pushD), ([0x86#8], .pushF),
    ([0x87#8], .popA), ([0x88#8], .popB), ([0x89#8], .popC), ([0x8A#8], .popD), ([0x8B#8], .popF),
    ([0x8C#8], .pushIp), ([0x8D#8], .popIp), ([0x8E#8], .popDiscard), ([0x8F#8, 0xA5#8], .pushImm 0xA5#8),
    ([0x90#8, 0xA5#8], .pushMem 0xA5#8)] = true := by decide

theorem test_decode_deref : decodes [
    ([0x91#8], .derefAB), ([0x92#8], .derefCD)] = true := by decide

/-! ## The worked example of every rule -/

/-- The examples of spec/40_nop_halt.md. -/
theorem test_examples_nop_halt : [
    after { State.reset with a := 0x12#8, f := 0x07#8 } [0x00#8] fun t =>
      t.a == 0x12#8 && t.f == 0x07#8 && t.ip == 0x8001#16,
    after { State.reset with a := 0x08#8, f := 0x04#8 } [0x01#8] fun t =>
      t.f == 0x0C#8 && t.f.getLsbD 3 && t.ip == 0x8001#16].all id = true := by decide

/-- The examples of spec/41_adc.md. -/
theorem test_examples_adc : [
    after { State.reset with a := 0x05#8, b := 0x03#8 } [0x02#8] fun t =>
      t.a == 0x08#8 && t.b == 0x03#8 && !t.f.getLsbD 0 && !t.f.getLsbD 1 && t.f.getLsbD 2 &&
      t.ip == 0x8001#16,
    after { State.reset with a := 0xF0#8, c := 0x20#8 } [0x03#8] fun t =>
      t.a == 0x10#8 && t.c == 0x20#8 && !t.f.getLsbD 0 && t.f.getLsbD 1 && t.f.getLsbD 2 &&
      t.ip == 0x8001#16,
    after { State.reset with a := 0xFF#8, d := 0x00#8, f := 0x02#8 } [0x04#8] fun t =>
      t.a == 0x00#8 && t.d == 0x00#8 && t.f.getLsbD 0 && t.f.getLsbD 1 && t.f.getLsbD 2 &&
      t.ip == 0x8001#16,
    after { State.reset with b := 0x80#8, a := 0x80#8 } [0x05#8] fun t =>
      t.b == 0x00#8 && t.a == 0x80#8 && t.f.getLsbD 0 && t.f.getLsbD 1 && t.f.getLsbD 2 &&
      t.ip == 0x8001#16,
    after { State.reset with b := 0x10#8, c := 0xFF#8, f := 0x02#8 } [0x06#8] fun t =>
      t.b == 0x10#8 && t.c == 0xFF#8 && !t.f.getLsbD 0 && !t.f.getLsbD 1 && t.f.getLsbD 2 &&
      t.ip == 0x8001#16,
    after { State.reset with b := 0x7F#8, d := 0x00#8, f := 0x02#8 } [0x07#8] fun t =>
      t.b == 0x80#8 && t.d == 0x00#8 && !t.f.getLsbD 0 && !t.f.getLsbD 1 && !t.f.getLsbD 2 &&
      t.ip == 0x8001#16,
    after { State.reset with c := 0x00#8, a := 0x00#8 } [0x08#8] fun t =>
      t.c == 0x00#8 && t.a == 0x00#8 && t.f.getLsbD 0 && !t.f.getLsbD 1 && t.f.getLsbD 2 &&
      t.ip == 0x8001#16,
    after { State.reset with c := 0x01#8, b := 0xFE#8, f := 0x02#8 } [0x09#8] fun t =>
      t.c == 0x00#8 && t.b == 0xFE#8 && t.f.getLsbD 0 && t.f.getLsbD 1 && t.f.getLsbD 2 &&
      t.ip == 0x8001#16,
    after { State.reset with c := 0x12#8, d := 0x34#8, f := 0x02#8 } [0x0A#8] fun t =>
      t.c == 0x47#8 && t.d == 0x34#8 && !t.f.getLsbD 0 && !t.f.getLsbD 1 && t.f.getLsbD 2 &&
      t.ip == 0x8001#16,
    after { State.reset with d := 0xFF#8, a := 0xFF#8, f := 0x02#8 } [0x0B#8] fun t =>
      t.d == 0xFF#8 && t.a == 0xFF#8 && !t.f.getLsbD 0 && !t.f.getLsbD 1 && !t.f.getLsbD 2 &&
      t.ip == 0x8001#16,
    after { State.reset with d := 0x40#8, b := 0x40#8 } [0x0C#8] fun t =>
      t.d == 0x80#8 && t.b == 0x40#8 && !t.f.getLsbD 0 && !t.f.getLsbD 1 && !t.f.getLsbD 2 &&
      t.ip == 0x8001#16,
    after { State.reset with d := 0xC8#8, c := 0x64#8 } [0x0D#8] fun t =>
      t.d == 0x2C#8 && t.c == 0x64#8 && !t.f.getLsbD 0 && t.f.getLsbD 1 && t.f.getLsbD 2 &&
      t.ip == 0x8001#16,
    after { State.reset with a := 0x05#8 } [0x0E#8, 0x03#8] fun t =>
      t.a == 0x08#8 && !t.f.getLsbD 0 && !t.f.getLsbD 1 && t.f.getLsbD 2 && t.ip == 0x8002#16,
    after { State.reset with b := 0xFF#8 } [0x0F#8, 0x01#8] fun t =>
      t.b == 0x00#8 && t.f.getLsbD 0 && t.f.getLsbD 1 && t.f.getLsbD 2 && t.ip == 0x8002#16,
    after { State.reset with c := 0x3C#8, f := 0x02#8 } [0x10#8, 0xFF#8] fun t =>
      t.c == 0x3C#8 && !t.f.getLsbD 0 && !t.f.getLsbD 1 && t.f.getLsbD 2 && t.ip == 0x8002#16,
    after { State.reset with d := 0x00#8, f := 0x02#8 } [0x11#8, 0x00#8] fun t =>
      t.d == 0x01#8 && !t.f.getLsbD 0 && !t.f.getLsbD 1 && t.f.getLsbD 2 && t.ip == 0x8002#16,
    after (({ State.reset with a := 0x0F#8 } : State).memWrite 0x0010#16 0xF1#8) [0x12#8, 0x10#8, 0x00#8] fun t =>
      t.a == 0x00#8 && t.f.getLsbD 0 && t.f.getLsbD 1 && t.f.getLsbD 2 && t.ip == 0x8003#16,
    after (({ State.reset with b := 0x7F#8 } : State).memWrite 0x1234#16 0x01#8) [0x13#8, 0x34#8, 0x12#8] fun t =>
      t.b == 0x80#8 && !t.f.getLsbD 0 && !t.f.getLsbD 1 && !t.f.getLsbD 2 && t.ip == 0x8003#16,
    after (({ State.reset with c := 0x80#8, f := 0x02#8 } : State).memWrite 0x7F00#16 0x7F#8) [0x14#8, 0x00#8, 0x7F#8] fun t =>
      t.c == 0x00#8 && t.f.getLsbD 0 && t.f.getLsbD 1 && t.f.getLsbD 2 && t.ip == 0x8003#16,
    after (({ State.reset with d := 0xAA#8 } : State).memWrite 0x00FF#16 0x55#8) [0x15#8, 0xFF#8, 0x00#8] fun t =>
      t.d == 0xFF#8 && !t.f.getLsbD 0 && !t.f.getLsbD 1 && !t.f.getLsbD 2 && t.ip == 0x8003#16].all id = true := by decide

/-- The examples of spec/42_sbb.md. -/
theorem test_examples_sbb : [
    after { State.reset with a := 0x08#8, b := 0x03#8 } [0x16#8] fun t =>
      t.a == 0x05#8 && t.b == 0x03#8 && !t.f.getLsbD 0 && t.f.getLsbD 1 && t.f.getLsbD 2 &&
      t.ip == 0x8001#16,
    after { State.reset with a := 0x03#8, c := 0x08#8 } [0x17#8] fun t =>
      t.a == 0xFB#8 && t.c == 0x08#8 && !t.f.getLsbD 0 && !t.f.getLsbD 1 && !t.f.getLsbD 2 &&
      t.ip == 0x8001#16,
    after { State.reset with a := 0x10#8, d := 0x0F#8, f := 0x02#8 } [0x18#8] fun t =>
      t.a == 0x00#8 && t.d == 0x0F#8 && t.f.getLsbD 0 && t.f.getLsbD 1 && t.f.getLsbD 2 &&
      t.ip == 0x8001#16,
    after { State.reset with b := 0x00#8, a := 0x00#8, f := 0x02#8 } [0x19#8] fun t =>
      t.b == 0xFF#8 && t.a == 0x00#8 && !t.f.getLsbD 0 && !t.f.getLsbD 1 && !t.f.getLsbD 2 &&
      t.ip == 0x8001#16,
    after { State.reset with b := 0x80#8, c := 0x01#8 } [0x1A#8] fun t =>
      t.b == 0x7F#8 && t.c == 0x01#8 && !t.f.getLsbD 0 && t.f.getLsbD 1 && t.f.getLsbD 2 &&
      t.ip == 0x8001#16,
    after { State.reset with b := 0x55#8, d := 0xFF#8, f := 0x02#8 } [0x1B#8] fun t =>
      t.b == 0x55#8 && t.d == 0xFF#8 && !t.f.getLsbD 0 && !t.f.getLsbD 1 && t.f.getLsbD 2 &&
      t.ip == 0x8001#16,
    after { State.reset with c := 0x05#8, a := 0x05#8 } [0x1C#8] fun t =>
      t.c == 0x00#8 && t.a == 0x05#8 && t.f.getLsbD 0 && t.f.getLsbD 1 && t.f.getLsbD 2 &&
      t.ip == 0x8001#16,
    after { State.reset with c := 0x00#8, b := 0x00#8 } [0x1D#8] fun t =>
      t.c == 0x00#8 && t.b == 0x00#8 && t.f.getLsbD 0 && !t.f.getLsbD 1 && t.f.getLsbD 2 &&
      t.ip == 0x8001#16,
    after { State.reset with c := 0x05#8, d := 0x04#8, f := 0x02#8 } [0x1E#8] fun t =>
      t.c == 0x00#8 && t.d == 0x04#8 && t.f.getLsbD 0 && t.f.getLsbD 1 && t.f.getLsbD 2 &&
      t.ip == 0x8001#16,
    after { State.reset with d := 0xFF#8, a := 0xFF#8 } [0x1F#8] fun t =>
      t.d == 0x00#8 && t.a == 0xFF#8 && t.f.getLsbD 0 && t.f.getLsbD 1 && t.f.getLsbD 2 &&
      t.ip == 0x8001#16,
    after { State.reset with d := 0x00#8, b := 0x01#8 } [0x20#8] fun t =>
      t.d == 0xFF#8 && t.b == 0x01#8 && !t.f.getLsbD 0 && !t.f.getLsbD 1 && !t.f.getLsbD 2 &&
      t.ip == 0x8001#16,
    after { State.reset with d := 0x90#8, c := 0x10#8 } [0x21#8] fun t =>
      t.d == 0x80#8 && t.c == 0x10#8 && !t.f.getLsbD 0 && t.f.getLsbD 1 && !t.f.getLsbD 2 &&
      t.ip == 0x8001#16,
    after { State.reset with a := 0x0A#8 } [0x22#8, 0x01#8] fun t =>
      t.a == 0x09#8 && !t.f.getLsbD 0 && t.f.getLsbD 1 && t.f.getLsbD 2 && t.ip == 0x8002#16,
    after { State.reset with b := 0x00#8 } [0x23#8, 0x01#8] fun t =>
      t.b == 0xFF#8 && !t.f.getLsbD 0 && !t.f.getLsbD 1 && !t.f.getLsbD 2 && t.ip == 0x8002#16,
    after { State.reset with c := 0x7F#8, f := 0x02#8 } [0x24#8, 0xFF#8] fun t =>
      t.c == 0x7F#8 && !t.f.getLsbD 0 && !t.f.getLsbD 1 && t.f.getLsbD 2 && t.ip == 0x8002#16,
    after { State.reset with d := 0x01#8, f := 0x02#8 } [0x25#8, 0x00#8] fun t =>
      t.d == 0x00#8 && t.f.getLsbD 0 && t.f.getLsbD 1 && t.f.getLsbD 2 && t.ip == 0x8002#16,
    after (({ State.reset with a := 0x80#8 } : State).memWrite 0x0010#16 0x80#8) [0x26#8, 0x10#8, 0x00#8] fun t =>
      t.a == 0x00#8 && t.f.getLsbD 0 && t.f.getLsbD 1 && t.f.getLsbD 2 && t.ip == 0x8003#16,
    after (({ State.reset with b := 0x20#8 } : State).memWrite 0x1234#16 0x30#8) [0x27#8, 0x34#8, 0x12#8] fun t =>
      t.b == 0xF0#8 && !t.f.getLsbD 0 && !t.f.getLsbD 1 && !t.f.getLsbD 2 && t.ip == 0x8003#16,
    after (({ State.reset with c := 0xFF#8 } : State).memWrite 0x7F00#16 0x7F#8) [0x28#8, 0x00#8, 0x7F#8] fun t =>
      t.c == 0x80#8 && !t.f.getLsbD 0 && t.f.getLsbD 1 && !t.f.getLsbD 2 && t.ip == 0x8003#16,
    after (({ State.reset with d := 0x42#8 } : State).memWrite 0x00FF#16 0x00#8) [0x29#8, 0xFF#8, 0x00#8] fun t =>
      t.d == 0x42#8 && !t.f.getLsbD 0 && !t.f.getLsbD 1 && t.f.getLsbD 2 && t.ip == 0x8003#16].all id = true := by decide

/-- The examples of spec/43_and.md. -/
theorem test_examples_and : [
    after { State.reset with a := 0xF0#8, b := 0x3C#8 } [0x2A#8] fun t =>
      t.a == 0x30#8 && t.b == 0x3C#8 && !t.f.getLsbD 0 && t.f.getLsbD 1 && t.f.getLsbD 2 &&
      t.ip == 0x8001#16,
    after { State.reset with a := 0xFF#8, c := 0xFF#8, f := 0x02#8 } [0x2B#8] fun t =>
      t.a == 0xFF#8 && t.c == 0xFF#8 && !t.f.getLsbD 0 && !t.f.getLsbD 1 && !t.f.getLsbD 2 &&
      t.ip == 0x8001#16,
    after { State.reset with a := 0xAA#8, d := 0x55#8 } [0x2C#8] fun t =>
      t.a == 0x00#8 && t.d == 0x55#8 && t.f.getLsbD 0 && t.f.getLsbD 1 && t.f.getLsbD 2 &&
      t.ip == 0x8001#16,
    after { State.reset with b := 0x0F#8, a := 0x0F#8 } [0x2D#8] fun t =>
      t.b == 0x0F#8 && t.a == 0x0F#8 && !t.f.getLsbD 0 && !t.f.getLsbD 1 && t.f.getLsbD 2 &&
      t.ip == 0x8001#16,
    after { State.reset with b := 0x81#8, c := 0x80#8, f := 0x02#8 } [0x2E#8] fun t =>
      t.b == 0x80#8 && t.c == 0x80#8 && !t.f.getLsbD 0 && t.f.getLsbD 1 && !t.f.getLsbD 2 &&
      t.ip == 0x8001#16,
    after { State.reset with b := 0x00#8, d := 0xFF#8, f := 0x02#8 } [0x2F#8] fun t =>
      t.b == 0x00#8 && t.d == 0xFF#8 && t.f.getLsbD 0 && !t.f.getLsbD 1 && t.f.getLsbD 2 &&
      t.ip == 0x8001#16,
    after { State.reset with c := 0x7F#8, a := 0xFF#8 } [0x30#8] fun t =>
      t.c == 0x7F#8 && t.a == 0xFF#8 && !t.f.getLsbD 0 && !t.f.getLsbD 1 && t.f.getLsbD 2 &&
      t.ip == 0x8001#16,
    after { State.reset with c := 0xC3#8, b := 0x3C#8 } [0x31#8] fun t =>
      t.c == 0x00#8 && t.b == 0x3C#8 && t.f.getLsbD 0 && t.f.getLsbD 1 && t.f.getLsbD 2 &&
      t.ip == 0x8001#16,
    after { State.reset with c := 0xFF#8, d := 0x80#8 } [0x32#8] fun t =>
      t.c == 0x80#8 && t.d == 0x80#8 && !t.f.getLsbD 0 && t.f.getLsbD 1 && !t.f.getLsbD 2 &&
      t.ip == 0x8001#16,
    after { State.reset with d := 0x12#8, a := 0x10#8, f := 0x02#8 } [0x33#8] fun t =>
      t.d == 0x10#8 && t.a == 0x10#8 && !t.f.getLsbD 0 && t.f.getLsbD 1 && t.f.getLsbD 2 &&
      t.ip == 0x8001#16,
    after { State.reset with d := 0x80#8, b := 0x7F#8 } [0x34#8] fun t =>
      t.d == 0x00#8 && t.b == 0x7F#8 && t.f.getLsbD 0 && t.f.getLsbD 1 && t.f.getLsbD 2 &&
      t.ip == 0x8001#16,
    after { State.reset with d := 0x55#8, c := 0x0F#8 } [0x35#8] fun t =>
      t.d == 0x05#8 && t.c == 0x0F#8 && !t.f.getLsbD 0 && t.f.getLsbD 1 && t.f.getLsbD 2 &&
      t.ip == 0x8001#16,
    after { State.reset with a := 0xFF#8, f := 0x02#8 } [0x36#8, 0x0F#8] fun t =>
      t.a == 0x0F#8 && !t.f.getLsbD 0 && t.f.getLsbD 1 && t.f.getLsbD 2 && t.ip == 0x8002#16,
    after { State.reset with b := 0x3C#8 } [0x37#8, 0xFF#8] fun t =>
      t.b == 0x3C#8 && !t.f.getLsbD 0 && !t.f.getLsbD 1 && t.f.getLsbD 2 && t.ip == 0x8002#16,
    after { State.reset with c := 0x01#8 } [0x38#8, 0xFE#8] fun t =>
      t.c == 0x00#8 && t.f.getLsbD 0 && t.f.getLsbD 1 && t.f.getLsbD 2 && t.ip == 0x8002#16,
    after { State.reset with d := 0x00#8 } [0x39#8, 0x00#8] fun t =>
      t.d == 0x00#8 && t.f.getLsbD 0 && !t.f.getLsbD 1 && t.f.getLsbD 2 && t.ip == 0x8002#16,
    after (({ State.reset with a := 0xF0#8 } : State).memWrite 0x0010#16 0x3C#8) [0x3A#8, 0x10#8, 0x00#8] fun t =>
      t.a == 0x30#8 && !t.f.getLsbD 0 && t.f.getLsbD 1 && t.f.getLsbD 2 && t.ip == 0x8003#16,
    after (({ State.reset with b := 0x80#8, f := 0x02#8 } : State).memWrite 0x1234#16 0x80#8) [0x3B#8, 0x34#8, 0x12#8] fun t =>
      t.b == 0x80#8 && !t.f.getLsbD 0 && !t.f.getLsbD 1 && !t.f.getLsbD 2 && t.ip == 0x8003#16,
    after (({ State.reset with c := 0x66#8 } : State).memWrite 0x7F00#16 0x99#8) [0x3C#8, 0x00#8, 0x7F#8] fun t =>
      t.c == 0x00#8 && t.f.getLsbD 0 && t.f.getLsbD 1 && t.f.getLsbD 2 && t.ip == 0x8003#16,
    after (({ State.reset with d := 0x7E#8 } : State).memWrite 0x00FF#16 0x18#8) [0x3D#8, 0xFF#8, 0x00#8] fun t =>
      t.d == 0x18#8 && !t.f.getLsbD 0 && t.f.getLsbD 1 && t.f.getLsbD 2 && t.ip == 0x8003#16].all id = true := by decide

/-- The examples of spec/44_or.md. -/
theorem test_examples_or : [
    after { State.reset with a := 0x00#8, b := 0x00#8 } [0x3E#8] fun t =>
      t.a == 0x00#8 && t.b == 0x00#8 && t.f.getLsbD 0 && !t.f.getLsbD 1 && t.f.getLsbD 2 &&
      t.ip == 0x8001#16,
    after { State.reset with a := 0x0F#8, c := 0xF0#8, f := 0x02#8 } [0x3F#8] fun t =>
      t.a == 0xFF#8 && t.c == 0xF0#8 && !t.f.getLsbD 0 && !t.f.getLsbD 1 && !t.f.getLsbD 2 &&
      t.ip == 0x8001#16,
    after { State.reset with a := 0x80#8, d := 0x01#8 } [0x40#8] fun t =>
      t.a == 0x81#8 && t.d == 0x01#8 && !t.f.getLsbD 0 && !t.f.getLsbD 1 && !t.f.getLsbD 2 &&
      t.ip == 0x8001#16,
    after { State.reset with b := 0x12#8, a := 0x12#8, f := 0x02#8 } [0x41#8] fun t =>
      t.b == 0x12#8 && t.a == 0x12#8 && !t.f.getLsbD 0 && !t.f.getLsbD 1 && t.f.getLsbD 2 &&
      t.ip == 0x8001#16,
    after { State.reset with b := 0x00#8, c := 0x80#8 } [0x42#8] fun t =>
      t.b == 0x80#8 && t.c == 0x80#8 && !t.f.getLsbD 0 && !t.f.getLsbD 1 && !t.f.getLsbD 2 &&
      t.ip == 0x8001#16,
    after { State.reset with b := 0x55#8, d := 0xAA#8 } [0x43#8] fun t =>
      t.b == 0xFF#8 && t.d == 0xAA#8 && !t.f.getLsbD 0 && !t.f.getLsbD 1 && !t.f.getLsbD 2 &&
      t.ip == 0x8001#16,
    after { State.reset with c := 0x01#8, a := 0x02#8, f := 0x02#8 } [0x44#8] fun t =>
      t.c == 0x03#8 && t.a == 0x02#8 && !t.f.getLsbD 0 && !t.f.getLsbD 1 && t.f.getLsbD 2 &&
      t.ip == 0x8001#16,
    after { State.reset with c := 0x40#8, b := 0x00#8 } [0x45#8] fun t =>
      t.c == 0x40#8 && t.b == 0x00#8 && !t.f.getLsbD 0 && !t.f.getLsbD 1 && t.f.getLsbD 2 &&
      t.ip == 0x8001#16,
    after { State.reset with c := 0x00#8, d := 0x7F#8 } [0x46#8] fun t =>
      t.c == 0x7F#8 && t.d == 0x7F#8 && !t.f.getLsbD 0 && !t.f.getLsbD 1 && t.f.getLsbD 2 &&
      t.ip == 0x8001#16,
    after { State.reset with d := 0xF0#8, a := 0x0F#8, f := 0x02#8 } [0x47#8] fun t =>
      t.d == 0xFF#8 && t.a == 0x0F#8 && !t.f.getLsbD 0 && !t.f.getLsbD 1 && !t.f.getLsbD 2 &&
      t.ip == 0x8001#16,
    after { State.reset with d := 0x08#8, b := 0x80#8 } [0x48#8] fun t =>
      t.d == 0x88#8 && t.b == 0x80#8 && !t.f.getLsbD 0 && !t.f.getLsbD 1 && !t.f.getLsbD 2 &&
      t.ip == 0x8001#16,
    after { State.reset with d := 0x00#8, c := 0x00#8, f := 0x02#8 } [0x49#8] fun t =>
      t.d == 0x00#8 && t.c == 0x00#8 && t.f.getLsbD 0 && !t.f.getLsbD 1 && t.f.getLsbD 2 &&
      t.ip == 0x8001#16,
    after { State.reset with a := 0x00#8, f := 0x02#8 } [0x4A#8, 0x00#8] fun t =>
      t.a == 0x00#8 && t.f.getLsbD 0 && !t.f.getLsbD 1 && t.f.getLsbD 2 && t.ip == 0x8002#16,
    after { State.reset with b := 0x10#8 } [0x4B#8, 0x01#8] fun t =>
      t.b == 0x11#8 && !t.f.getLsbD 0 && !t.f.getLsbD 1 && t.f.getLsbD 2 && t.ip == 0x8002#16,
    after { State.reset with c := 0x80#8, f := 0x02#8 } [0x4C#8, 0x00#8] fun t =>
      t.c == 0x80#8 && !t.f.getLsbD 0 && !t.f.getLsbD 1 && !t.f.getLsbD 2 && t.ip == 0x8002#16,
    after { State.reset with d := 0x7F#8 } [0x4D#8, 0x80#8] fun t =>
      t.d == 0xFF#8 && !t.f.getLsbD 0 && !t.f.getLsbD 1 && !t.f.getLsbD 2 && t.ip == 0x8002#16,
    after (({ State.reset with a := 0x00#8 } : State).memWrite 0x0010#16 0x01#8) [0x4E#8, 0x10#8, 0x00#8] fun t =>
      t.a == 0x01#8 && !t.f.getLsbD 0 && !t.f.getLsbD 1 && t.f.getLsbD 2 && t.ip == 0x8003#16,
    after (({ State.reset with b := 0xFE#8 } : State).memWrite 0x1234#16 0x01#8) [0x4F#8, 0x34#8, 0x12#8] fun t =>
      t.b == 0xFF#8 && !t.f.getLsbD 0 && !t.f.getLsbD 1 && !t.f.getLsbD 2 && t.ip == 0x8003#16,
    after (({ State.reset with c := 0x20#8, f := 0x02#8 } : State).memWrite 0x7F00#16 0x20#8) [0x50#8, 0x00#8, 0x7F#8] fun t =>
      t.c == 0x20#8 && !t.f.getLsbD 0 && !t.f.getLsbD 1 && t.f.getLsbD 2 && t.ip == 0x8003#16,
    after (({ State.reset with d := 0x00#8 } : State).memWrite 0x00FF#16 0xFF#8) [0x51#8, 0xFF#8, 0x00#8] fun t =>
      t.d == 0xFF#8 && !t.f.getLsbD 0 && !t.f.getLsbD 1 && !t.f.getLsbD 2 && t.ip == 0x8003#16].all id = true := by decide

/-- The examples of spec/45_not_shift.md. -/
theorem test_examples_not_shift : [
    after { State.reset with a := 0x0F#8, f := 0x06#8 } [0x52#8] fun t =>
      t.a == 0xF0#8 && !t.f.getLsbD 0 && t.f.getLsbD 1 && t.f.getLsbD 2 && t.ip == 0x8001#16,
    after { State.reset with b := 0xFF#8, f := 0x06#8 } [0x53#8] fun t =>
      t.b == 0x00#8 && t.f.getLsbD 0 && t.f.getLsbD 1 && t.f.getLsbD 2 && t.ip == 0x8001#16,
    after { State.reset with c := 0x00#8, f := 0x06#8 } [0x54#8] fun t =>
      t.c == 0xFF#8 && !t.f.getLsbD 0 && t.f.getLsbD 1 && t.f.getLsbD 2 && t.ip == 0x8001#16,
    after { State.reset with d := 0xAA#8, f := 0x06#8 } [0x55#8] fun t =>
      t.d == 0x55#8 && !t.f.getLsbD 0 && t.f.getLsbD 1 && t.f.getLsbD 2 && t.ip == 0x8001#16,
    after { State.reset with a := 0x81#8, f := 0x02#8 } [0x56#8, 0x01#8] fun t =>
      t.a == 0x02#8 && !t.f.getLsbD 0 && t.f.getLsbD 1 && !t.f.getLsbD 2 && t.ip == 0x8002#16,
    after { State.reset with b := 0x0F#8, f := 0x02#8 } [0x57#8, 0x04#8] fun t =>
      t.b == 0xF0#8 && !t.f.getLsbD 0 && t.f.getLsbD 1 && !t.f.getLsbD 2 && t.ip == 0x8002#16,
    after { State.reset with c := 0x01#8, f := 0x02#8 } [0x58#8, 0x08#8] fun t =>
      t.c == 0x00#8 && t.f.getLsbD 0 && t.f.getLsbD 1 && !t.f.getLsbD 2 && t.ip == 0x8002#16,
    after { State.reset with d := 0xFF#8, f := 0x02#8 } [0x59#8, 0x00#8] fun t =>
      t.d == 0xFF#8 && !t.f.getLsbD 0 && t.f.getLsbD 1 && !t.f.getLsbD 2 && t.ip == 0x8002#16,
    after { State.reset with a := 0x81#8, f := 0x04#8 } [0x5A#8, 0x01#8] fun t =>
      t.a == 0x40#8 && !t.f.getLsbD 0 && !t.f.getLsbD 1 && t.f.getLsbD 2 && t.ip == 0x8002#16,
    after { State.reset with b := 0xF0#8, f := 0x04#8 } [0x5B#8, 0x04#8] fun t =>
      t.b == 0x0F#8 && !t.f.getLsbD 0 && !t.f.getLsbD 1 && t.f.getLsbD 2 && t.ip == 0x8002#16,
    after { State.reset with c := 0x80#8, f := 0x04#8 } [0x5C#8, 0x07#8] fun t =>
      t.c == 0x01#8 && !t.f.getLsbD 0 && !t.f.getLsbD 1 && t.f.getLsbD 2 && t.ip == 0x8002#16,
    after { State.reset with d := 0xFF#8, f := 0x04#8 } [0x5D#8, 0x09#8] fun t =>
      t.d == 0x00#8 && t.f.getLsbD 0 && !t.f.getLsbD 1 && t.f.getLsbD 2 && t.ip == 0x8002#16].all id = true := by decide

/-- The examples of spec/46_load_store_move.md. -/
theorem test_examples_load_store_move : [
    after { State.reset with a := 0x77#8, f := 0x02#8 } [0x5E#8, 0x05#8] fun t =>
      t.a == 0x05#8 && t.f == 0x02#8 && t.ip == 0x8002#16,
    after { State.reset with b := 0x77#8, f := 0x02#8 } [0x5F#8, 0x03#8] fun t =>
      t.b == 0x03#8 && t.f == 0x02#8 && t.ip == 0x8002#16,
    after { State.reset with c := 0x77#8, f := 0x02#8 } [0x60#8, 0x00#8] fun t =>
      t.c == 0x00#8 && t.f == 0x02#8 && t.ip == 0x8002#16,
    after { State.reset with d := 0x77#8, f := 0x02#8 } [0x61#8, 0xFF#8] fun t =>
      t.d == 0xFF#8 && t.f == 0x02#8 && t.ip == 0x8002#16,
    after (({ State.reset with a := 0x11#8 } : State).memWrite 0x0010#16 0xAB#8) [0x62#8, 0x10#8, 0x00#8] fun t =>
      t.a == 0xAB#8 && t.ip == 0x8003#16,
    after { State.reset with b := 0x00#8 } [0x63#8, 0x00#8, 0x80#8] fun t =>
      t.b == 0x63#8 && t.ip == 0x8003#16,
    after (({ State.reset with c := 0x11#8 } : State).memWrite 0x7FFF#16 0x00#8) [0x64#8, 0xFF#8, 0x7F#8] fun t =>
      t.c == 0x00#8 && t.ip == 0x8003#16,
    after (({ State.reset with d := 0x11#8 } : State).memWrite 0xFFFF#16 0x5A#8) [0x65#8, 0xFF#8, 0xFF#8] fun t =>
      t.d == 0x5A#8 && t.ip == 0x8003#16,
    after (({ State.reset with a := 0xAB#8 } : State).memWrite 0x0010#16 0x99#8) [0x66#8, 0x10#8, 0x00#8] fun t =>
      t.a == 0xAB#8 && t.memRead 0x0010#16 == 0xAB#8 && t.ip == 0x8003#16,
    after (({ State.reset with b := 0x01#8 } : State).memWrite 0x7FFF#16 0x99#8) [0x67#8, 0xFF#8, 0x7F#8] fun t =>
      t.b == 0x01#8 && t.memRead 0x7FFF#16 == 0x01#8 && t.ip == 0x8003#16,
    after (({ State.reset with c := 0x00#8 } : State).memWrite 0x1234#16 0x99#8) [0x68#8, 0x34#8, 0x12#8] fun t =>
      t.c == 0x00#8 && t.memRead 0x1234#16 == 0x00#8 && t.ip == 0x8003#16,
    after (({ State.reset with d := 0xFF#8 } : State).memWrite 0xFFFF#16 0x99#8) [0x69#8, 0xFF#8, 0xFF#8] fun t =>
      t.d == 0xFF#8 && t.memRead 0xFFFF#16 == 0xFF#8 && t.ip == 0x8003#16,
    after (State.reset.memWrite 0x0020#16 0x00#8) [0x6A#8, 0x20#8, 0x00#8, 0x5A#8] fun t =>
      t.memRead 0x0020#16 == 0x5A#8 && t.ip == 0x8004#16,
    after { State.reset with a := 0x99#8, b := 0x12#8, f := 0x01#8 } [0x6B#8] fun t =>
      t.a == 0x12#8 && t.b == 0x12#8 && t.f == 0x01#8 && t.ip == 0x8001#16,
    after { State.reset with a := 0x99#8, c := 0x00#8, f := 0x01#8 } [0x6C#8] fun t =>
      t.a == 0x00#8 && t.c == 0x00#8 && t.f == 0x01#8 && t.ip == 0x8001#16,
    after { State.reset with a := 0x99#8, d := 0xFF#8, f := 0x01#8 } [0x6D#8] fun t =>
      t.a == 0xFF#8 && t.d == 0xFF#8 && t.f == 0x01#8 && t.ip == 0x8001#16,
    after { State.reset with b := 0x99#8, a := 0x80#8, f := 0x01#8 } [0x6E#8] fun t =>
      t.b == 0x80#8 && t.a == 0x80#8 && t.f == 0x01#8 && t.ip == 0x8001#16,
    after { State.reset with b := 0x99#8, c := 0x01#8, f := 0x01#8 } [0x6F#8] fun t =>
      t.b == 0x01#8 && t.c == 0x01#8 && t.f == 0x01#8 && t.ip == 0x8001#16,
    after { State.reset with b := 0x99#8, d := 0x7F#8, f := 0x01#8 } [0x70#8] fun t =>
      t.b == 0x7F#8 && t.d == 0x7F#8 && t.f == 0x01#8 && t.ip == 0x8001#16,
    after { State.reset with c := 0x99#8, a := 0x34#8, f := 0x01#8 } [0x71#8] fun t =>
      t.c == 0x34#8 && t.a == 0x34#8 && t.f == 0x01#8 && t.ip == 0x8001#16,
    after { State.reset with c := 0x99#8, b := 0xA5#8, f := 0x01#8 } [0x72#8] fun t =>
      t.c == 0xA5#8 && t.b == 0xA5#8 && t.f == 0x01#8 && t.ip == 0x8001#16,
    after { State.reset with c := 0x99#8, d := 0x5A#8, f := 0x01#8 } [0x73#8] fun t =>
      t.c == 0x5A#8 && t.d == 0x5A#8 && t.f == 0x01#8 && t.ip == 0x8001#16,
    after { State.reset with d := 0x99#8, a := 0x0F#8, f := 0x01#8 } [0x74#8] fun t =>
      t.d == 0x0F#8 && t.a == 0x0F#8 && t.f == 0x01#8 && t.ip == 0x8001#16,
    after { State.reset with d := 0x99#8, b := 0xF0#8, f := 0x01#8 } [0x75#8] fun t =>
      t.d == 0xF0#8 && t.b == 0xF0#8 && t.f == 0x01#8 && t.ip == 0x8001#16,
    after { State.reset with d := 0x99#8, c := 0xC3#8, f := 0x01#8 } [0x76#8] fun t =>
      t.d == 0xC3#8 && t.c == 0xC3#8 && t.f == 0x01#8 && t.ip == 0x8001#16,
    after { State.reset with a := 0x05#8, f := 0x02#8 } [0x77#8] fun t =>
      t.f == 0x05#8 && t.f.getLsbD 0 && !t.f.getLsbD 1 && t.f.getLsbD 2 && !t.f.getLsbD 3 &&
      t.ip == 0x8001#16,
    after { State.reset with b := 0xF2#8, f := 0x02#8 } [0x78#8] fun t =>
      t.f == 0xF2#8 && !t.f.getLsbD 0 && t.f.getLsbD 1 && !t.f.getLsbD 2 && !t.f.getLsbD 3 &&
      t.ip == 0x8001#16,
    after { State.reset with c := 0x08#8, f := 0x02#8 } [0x79#8] fun t =>
      t.f == 0x08#8 && !t.f.getLsbD 0 && !t.f.getLsbD 1 && !t.f.getLsbD 2 && t.f.getLsbD 3 &&
      t.ip == 0x8001#16,
    after { State.reset with d := 0x00#8, f := 0x02#8 } [0x7A#8] fun t =>
      t.f == 0x00#8 && !t.f.getLsbD 0 && !t.f.getLsbD 1 && !t.f.getLsbD 2 && !t.f.getLsbD 3 &&
      t.ip == 0x8001#16,
    after { State.reset with a := 0x99#8, f := 0x07#8 } [0x7B#8] fun t =>
      t.a == 0x07#8 && t.f == 0x07#8 && t.ip == 0x8001#16,
    after { State.reset with b := 0x99#8, f := 0xF0#8 } [0x7C#8] fun t =>
      t.b == 0xF0#8 && t.f == 0xF0#8 && t.ip == 0x8001#16,
    after { State.reset with c := 0x99#8, f := 0x02#8 } [0x7D#8] fun t =>
      t.c == 0x02#8 && t.f == 0x02#8 && t.ip == 0x8001#16,
    after { State.reset with d := 0x99#8 } [0x7E#8] fun t =>
      t.d == 0x00#8 && t.f == 0x00#8 && t.ip == 0x8001#16].all id = true := by decide

/-- The examples of spec/47_jump.md. -/
theorem test_examples_jump : [
    after { State.reset with f := 0x01#8 } [0x7F#8, 0x00#8, 0x90#8] fun t =>
      t.ip == 0x9000#16,
    after State.reset [0x7F#8, 0x00#8, 0x90#8] fun t =>
      t.ip == 0x8003#16,
    after { State.reset with f := 0x04#8 } [0x80#8, 0x00#8, 0x90#8] fun t =>
      t.ip == 0x9000#16,
    after State.reset [0x80#8, 0x00#8, 0x90#8] fun t =>
      t.ip == 0x8003#16,
    after { State.reset with f := 0x02#8 } [0x81#8, 0x00#8, 0x90#8] fun t =>
      t.ip == 0x9000#16,
    after State.reset [0x81#8, 0x00#8, 0x90#8] fun t =>
      t.ip == 0x8003#16].all id = true := by decide

/-- The examples of spec/48_stack.md. -/
theorem test_examples_stack : [
    after { State.reset with a := 0x42#8 } [0x82#8] fun t =>
      t.sp == 0x7FFE#16 && t.memRead 0x7FFF#16 == 0x42#8 && t.ip == 0x8001#16,
    after { State.reset with b := 0x00#8 } [0x83#8] fun t =>
      t.sp == 0x7FFE#16 && t.memRead 0x7FFF#16 == 0x00#8 && t.ip == 0x8001#16,
    after { State.reset with c := 0xFF#8 } [0x84#8] fun t =>
      t.sp == 0x7FFE#16 && t.memRead 0x7FFF#16 == 0xFF#8 && t.ip == 0x8001#16,
    after { State.reset with d := 0x80#8 } [0x85#8] fun t =>
      t.sp == 0x7FFE#16 && t.memRead 0x7FFF#16 == 0x80#8 && t.ip == 0x8001#16,
    after { State.reset with f := 0xA6#8 } [0x86#8] fun t =>
      t.sp == 0x7FFE#16 && t.memRead 0x7FFF#16 == 0xA6#8 && t.f == 0xA6#8 && t.ip == 0x8001#16,
    after (({ State.reset with sp := 0x7FFE#16 } : State).memWrite 0x7FFF#16 0x42#8) [0x87#8] fun t =>
      t.a == 0x42#8 && t.sp == 0x7FFF#16 && t.ip == 0x8001#16,
    after { State.reset with sp := 0x7FFF#16 } [0x88#8] fun t =>
      t.b == 0x88#8 && t.sp == 0x8000#16 && t.ip == 0x8001#16,
    after (({ State.reset with sp := 0xFFFF#16 } : State).memWrite 0x0000#16 0x3C#8) [0x89#8] fun t =>
      t.c == 0x3C#8 && t.sp == 0x0000#16 && t.ip == 0x8001#16,
    after (({ State.reset with sp := 0x7FFD#16 } : State).memWrite 0x7FFE#16 0x00#8) [0x8A#8] fun t =>
      t.d == 0x00#8 && t.sp == 0x7FFE#16 && t.ip == 0x8001#16,
    after (({ State.reset with sp := 0x7FFE#16 } : State).memWrite 0x7FFF#16 0x16#8) [0x8B#8] fun t =>
      t.f == 0x16#8 && !t.f.getLsbD 0 && t.f.getLsbD 1 && t.f.getLsbD 2 && !t.f.getLsbD 3 &&
      t.sp == 0x7FFF#16 && t.ip == 0x8001#16,
    after State.reset [0x8C#8] fun t =>
      t.sp == 0x7FFD#16 && t.memRead 0x7FFF#16 == 0x80#8 && t.memRead 0x7FFE#16 == 0x01#8 &&
      t.ip == 0x8001#16,
    after ((({ State.reset with sp := 0x7FFD#16 } : State).memWrite 0x7FFE#16 0x34#8).memWrite 0x7FFF#16 0x92#8) [0x8D#8] fun t =>
      t.sp == 0x7FFF#16 && t.ip == 0x9234#16,
    after { State.reset with sp := 0x7FF0#16, a := 0x11#8 } [0x8E#8] fun t =>
      t.sp == 0x7FF1#16 && t.a == 0x11#8 && t.ip == 0x8001#16,
    after State.reset [0x8F#8, 0x42#8] fun t =>
      t.sp == 0x7FFE#16 && t.memRead 0x7FFF#16 == 0x42#8 && t.ip == 0x8002#16,
    after ((State.reset.memWrite 0x0010#16 0xAB#8).memWrite 0x1010#16 0xCD#8) [0x90#8, 0x10#8] fun t =>
      t.sp == 0x7FFE#16 && t.memRead 0x7FFF#16 == 0xAB#8 && t.ip == 0x8002#16].all id = true := by decide

/-- The examples of spec/49_deref.md. -/
theorem test_examples_deref : [
    after ((({ State.reset with a := 0x34#8, b := 0x12#8 } : State).memWrite 0x1234#16 0xAB#8).memWrite 0x7FFF#16 0xEE#8) [0x91#8] fun t =>
      t.a == 0xAB#8 && t.b == 0x12#8 && t.sp == 0x7FFF#16 && t.memRead 0x7FFF#16 == 0xEE#8 &&
      t.ip == 0x8001#16,
    after ((({ State.reset with c := 0xFF#8, d := 0x80#8 } : State).memWrite 0x80FF#16 0x07#8).memWrite 0x7FFF#16 0xEE#8) [0x92#8] fun t =>
      t.c == 0x07#8 && t.d == 0x80#8 && t.sp == 0x7FFF#16 && t.memRead 0x7FFF#16 == 0xEE#8 &&
      t.ip == 0x8001#16].all id = true := by decide

/-! ## Witnesses for the hypotheses of the statements, boundary values among them -/

theorem witness_AdcRegisterPairs :
    (.adcDC, 0x0D#8, .d, .c) ∈
      ([(.adcAB, 0x02#8, .a, .b), (.adcAC, 0x03#8, .a, .c), (.adcAD, 0x04#8, .a, .d), (.adcBA, 0x05#8, .b, .a),
        (.adcBC, 0x06#8, .b, .c), (.adcBD, 0x07#8, .b, .d), (.adcCA, 0x08#8, .c, .a), (.adcCB, 0x09#8, .c, .b),
        (.adcCD, 0x0A#8, .c, .d), (.adcDA, 0x0B#8, .d, .a), (.adcDB, 0x0C#8, .d, .b), (.adcDC, 0x0D#8, .d, .c)] : List (Instr × Byte × Reg × Reg)) ∧
    ready (boot [0x0D#8]) [0x0D#8] := ⟨by simp, by decide⟩

theorem witness_SbbRegisterPairs :
    (.sbbDC, 0x21#8, .d, .c) ∈
      ([(.sbbAB, 0x16#8, .a, .b), (.sbbAC, 0x17#8, .a, .c), (.sbbAD, 0x18#8, .a, .d), (.sbbBA, 0x19#8, .b, .a),
        (.sbbBC, 0x1A#8, .b, .c), (.sbbBD, 0x1B#8, .b, .d), (.sbbCA, 0x1C#8, .c, .a), (.sbbCB, 0x1D#8, .c, .b),
        (.sbbCD, 0x1E#8, .c, .d), (.sbbDA, 0x1F#8, .d, .a), (.sbbDB, 0x20#8, .d, .b), (.sbbDC, 0x21#8, .d, .c)] : List (Instr × Byte × Reg × Reg)) ∧
    ready (boot [0x21#8]) [0x21#8] := ⟨by simp, by decide⟩

theorem witness_AndRegisterPairs :
    (.andDC, 0x35#8, .d, .c) ∈
      ([(.andAB, 0x2A#8, .a, .b), (.andAC, 0x2B#8, .a, .c), (.andAD, 0x2C#8, .a, .d), (.andBA, 0x2D#8, .b, .a),
        (.andBC, 0x2E#8, .b, .c), (.andBD, 0x2F#8, .b, .d), (.andCA, 0x30#8, .c, .a), (.andCB, 0x31#8, .c, .b),
        (.andCD, 0x32#8, .c, .d), (.andDA, 0x33#8, .d, .a), (.andDB, 0x34#8, .d, .b), (.andDC, 0x35#8, .d, .c)] : List (Instr × Byte × Reg × Reg)) ∧
    ready (boot [0x35#8]) [0x35#8] := ⟨by simp, by decide⟩

theorem witness_OrRegisterPairs :
    (.orDC, 0x49#8, .d, .c) ∈
      ([(.orAB, 0x3E#8, .a, .b), (.orAC, 0x3F#8, .a, .c), (.orAD, 0x40#8, .a, .d), (.orBA, 0x41#8, .b, .a),
        (.orBC, 0x42#8, .b, .c), (.orBD, 0x43#8, .b, .d), (.orCA, 0x44#8, .c, .a), (.orCB, 0x45#8, .c, .b),
        (.orCD, 0x46#8, .c, .d), (.orDA, 0x47#8, .d, .a), (.orDB, 0x48#8, .d, .b), (.orDC, 0x49#8, .d, .c)] : List (Instr × Byte × Reg × Reg)) ∧
    ready (boot [0x49#8]) [0x49#8] := ⟨by simp, by decide⟩

theorem witness_MovesBetweenRegisters :
    (.mvbDC, 0x76#8, .d, .c) ∈
      ([(.mvbAB, 0x6B#8, .a, .b), (.mvbAC, 0x6C#8, .a, .c), (.mvbAD, 0x6D#8, .a, .d), (.mvbBA, 0x6E#8, .b, .a),
        (.mvbBC, 0x6F#8, .b, .c), (.mvbBD, 0x70#8, .b, .d), (.mvbCA, 0x71#8, .c, .a), (.mvbCB, 0x72#8, .c, .b),
        (.mvbCD, 0x73#8, .c, .d), (.mvbDA, 0x74#8, .d, .a), (.mvbDB, 0x75#8, .d, .b), (.mvbDC, 0x76#8, .d, .c)] : List (Instr × Byte × Reg × Reg)) ∧
    ready (boot [0x76#8]) [0x76#8] := ⟨by simp, by decide⟩

theorem witness_AdcImmediatesAndMemory :
    (.adcDImm, 0x11#8, .d) ∈
      ([(.adcAImm, 0x0E#8, .a), (.adcBImm, 0x0F#8, .b), (.adcCImm, 0x10#8, .c), (.adcDImm, 0x11#8, .d)] : List ((Byte → Instr) × Byte × Reg)) ∧
    ready (boot [0x11#8, 0xFF#8]) [0x11#8, 0xFF#8] ∧
    (.adcDMem, 0x15#8, .d) ∈
      ([(.adcAMem, 0x12#8, .a), (.adcBMem, 0x13#8, .b), (.adcCMem, 0x14#8, .c), (.adcDMem, 0x15#8, .d)] : List ((Addr → Instr) × Byte × Reg)) ∧
    ready (boot (0x15#8 :: leBytes 0xFFFF#16)) (0x15#8 :: leBytes 0xFFFF#16) := ⟨by simp, by decide, by simp, by decide⟩

theorem witness_SbbImmediatesAndMemory :
    (.sbbDImm, 0x25#8, .d) ∈
      ([(.sbbAImm, 0x22#8, .a), (.sbbBImm, 0x23#8, .b), (.sbbCImm, 0x24#8, .c), (.sbbDImm, 0x25#8, .d)] : List ((Byte → Instr) × Byte × Reg)) ∧
    ready (boot [0x25#8, 0xFF#8]) [0x25#8, 0xFF#8] ∧
    (.sbbDMem, 0x29#8, .d) ∈
      ([(.sbbAMem, 0x26#8, .a), (.sbbBMem, 0x27#8, .b), (.sbbCMem, 0x28#8, .c), (.sbbDMem, 0x29#8, .d)] : List ((Addr → Instr) × Byte × Reg)) ∧
    ready (boot (0x29#8 :: leBytes 0xFFFF#16)) (0x29#8 :: leBytes 0xFFFF#16) := ⟨by simp, by decide, by simp, by decide⟩

theorem witness_AndImmediatesAndMemory :
    (.andDImm, 0x39#8, .d) ∈
      ([(.andAImm, 0x36#8, .a), (.andBImm, 0x37#8, .b), (.andCImm, 0x38#8, .c), (.andDImm, 0x39#8, .d)] : List ((Byte → Instr) × Byte × Reg)) ∧
    ready (boot [0x39#8, 0xFF#8]) [0x39#8, 0xFF#8] ∧
    (.andDMem, 0x3D#8, .d) ∈
      ([(.andAMem, 0x3A#8, .a), (.andBMem, 0x3B#8, .b), (.andCMem, 0x3C#8, .c), (.andDMem, 0x3D#8, .d)] : List ((Addr → Instr) × Byte × Reg)) ∧
    ready (boot (0x3D#8 :: leBytes 0xFFFF#16)) (0x3D#8 :: leBytes 0xFFFF#16) := ⟨by simp, by decide, by simp, by decide⟩

theorem witness_OrImmediatesAndMemory :
    (.orDImm, 0x4D#8, .d) ∈
      ([(.orAImm, 0x4A#8, .a), (.orBImm, 0x4B#8, .b), (.orCImm, 0x4C#8, .c), (.orDImm, 0x4D#8, .d)] : List ((Byte → Instr) × Byte × Reg)) ∧
    ready (boot [0x4D#8, 0xFF#8]) [0x4D#8, 0xFF#8] ∧
    (.orDMem, 0x51#8, .d) ∈
      ([(.orAMem, 0x4E#8, .a), (.orBMem, 0x4F#8, .b), (.orCMem, 0x50#8, .c), (.orDMem, 0x51#8, .d)] : List ((Addr → Instr) × Byte × Reg)) ∧
    ready (boot (0x51#8 :: leBytes 0xFFFF#16)) (0x51#8 :: leBytes 0xFFFF#16) := ⟨by simp, by decide, by simp, by decide⟩

theorem witness_LoadsOfAByte :
    (.ldbDImm, 0x61#8, .d) ∈
      ([(.ldbAImm, 0x5E#8, .a), (.ldbBImm, 0x5F#8, .b), (.ldbCImm, 0x60#8, .c), (.ldbDImm, 0x61#8, .d)] : List ((Byte → Instr) × Byte × Reg)) ∧
    ready (boot [0x61#8, 0xFF#8]) [0x61#8, 0xFF#8] ∧
    (.ldbDMem, 0x65#8, .d) ∈
      ([(.ldbAMem, 0x62#8, .a), (.ldbBMem, 0x63#8, .b), (.ldbCMem, 0x64#8, .c), (.ldbDMem, 0x65#8, .d)] : List ((Addr → Instr) × Byte × Reg)) ∧
    ready (boot (0x65#8 :: leBytes 0xFFFF#16)) (0x65#8 :: leBytes 0xFFFF#16) := ⟨by simp, by decide, by simp, by decide⟩

theorem witness_NotInPlace :
    (.notD, 0x55#8, .d) ∈ ([(.notA, 0x52#8, .a), (.notB, 0x53#8, .b), (.notC, 0x54#8, .c), (.notD, 0x55#8, .d)] : List (Instr × Byte × Reg)) ∧
    ready (boot [0x55#8]) [0x55#8] := ⟨by simp, by decide⟩

/-- Counts 7 and 8, on either side of the two clauses. -/
theorem witness_ShiftsByImmediate :
    (.shlDImm, 0x59#8, .d) ∈
      ([(.shlAImm, 0x56#8, .a), (.shlBImm, 0x57#8, .b), (.shlCImm, 0x58#8, .c), (.shlDImm, 0x59#8, .d)] : List ((Byte → Instr) × Byte × Reg)) ∧
    (.shrDImm, 0x5D#8, .d) ∈
      ([(.shrAImm, 0x5A#8, .a), (.shrBImm, 0x5B#8, .b), (.shrCImm, 0x5C#8, .c), (.shrDImm, 0x5D#8, .d)] : List ((Byte → Instr) × Byte × Reg)) ∧
    ready (boot [0x59#8, 0x07#8]) [0x59#8, 0x07#8] ∧ ready (boot [0x5D#8, 0x08#8]) [0x5D#8, 0x08#8] := ⟨by simp, by simp, by decide, by decide⟩

/-- One store is to a byte of the instruction itself. -/
theorem witness_StoresOfAByte :
    (.stbMemD, 0x69#8, .d) ∈
      ([(.stbMemA, 0x66#8, .a), (.stbMemB, 0x67#8, .b), (.stbMemC, 0x68#8, .c), (.stbMemD, 0x69#8, .d)] : List ((Addr → Instr) × Byte × Reg)) ∧
    ready (boot (0x69#8 :: leBytes 0x8001#16)) (0x69#8 :: leBytes 0x8001#16) ∧
    ready (boot (0x6A#8 :: (leBytes 0xFFFF#16 ++ [0x00#8]))) (0x6A#8 :: (leBytes 0xFFFF#16 ++ [0x00#8])) := ⟨by simp, by decide, by decide⟩

theorem witness_MovesToAndFromFlags :
    (.mvbFD, 0x7A#8, .d) ∈ ([(.mvbFA, 0x77#8, .a), (.mvbFB, 0x78#8, .b), (.mvbFC, 0x79#8, .c), (.mvbFD, 0x7A#8, .d)] : List (Instr × Byte × Reg)) ∧
    (.mvbDF, 0x7E#8, .d) ∈ ([(.mvbAF, 0x7B#8, .a), (.mvbBF, 0x7C#8, .b), (.mvbCF, 0x7D#8, .c), (.mvbDF, 0x7E#8, .d)] : List (Instr × Byte × Reg)) ∧
    ready (boot [0x7A#8]) [0x7A#8] ∧ ready (boot [0x7E#8]) [0x7E#8] ∧ (boot [0x7A#8]).fault = false := ⟨by simp, by simp, by decide, by decide, rfl⟩

theorem witness_PushesOfAByte :
    (.pushD, 0x85#8, .d) ∈ ([(.pushA, 0x82#8, .a), (.pushB, 0x83#8, .b), (.pushC, 0x84#8, .c), (.pushD, 0x85#8, .d)] : List (Instr × Byte × Reg)) ∧
    ready (boot [0x85#8]) [0x85#8] ∧ ready (boot [0x86#8]) [0x86#8] ∧ ready (boot [0x8F#8, 0xFF#8]) [0x8F#8, 0xFF#8] ∧
    ready (boot [0x90#8, 0xFF#8]) [0x90#8, 0xFF#8] := ⟨by simp, by decide, by decide, by decide, by decide⟩

theorem witness_PopsOfAByte :
    (.popD, 0x8A#8, .d) ∈ ([(.popA, 0x87#8, .a), (.popB, 0x88#8, .b), (.popC, 0x89#8, .c), (.popD, 0x8A#8, .d)] : List (Instr × Byte × Reg)) ∧
    ready (boot [0x8A#8]) [0x8A#8] ∧ ready (boot [0x8B#8]) [0x8B#8] ∧ ready (boot [0x8E#8]) [0x8E#8] ∧
    (boot [0x8B#8]).fault = false := ⟨by simp, by decide, by decide, by decide, rfl⟩

theorem witness_NopAndBrk : ready (boot [0x00#8]) [0x00#8] ∧ ready (boot [0x01#8]) [0x01#8] ∧
    State.reset.fault = false := by decide

/-- A jump at the top of memory, flag clear and flag set. -/
theorem witness_ConditionalJumps :
    (.jc, 0x81#8, 1) ∈
      ([(.jz, 0x7F#8, 0), (.jg, 0x80#8, 2), (.jc, 0x81#8, 1)] : List ((Addr → Instr) × Byte × Nat)) ∧
    ready (prog { State.reset with ip := 0xFFFF#16 } (0x81#8 :: leBytes 0xFFFF#16)) (0x81#8 :: leBytes 0xFFFF#16) ∧
    ready (prog { State.reset with f := 0x02#8 } (0x81#8 :: leBytes 0x8000#16)) (0x81#8 :: leBytes 0x8000#16) :=
  ⟨by simp, by decide, by decide⟩

theorem witness_PushIpAndPopIp : ready (boot [0x8C#8]) [0x8C#8] ∧ ready (boot [0x8D#8]) [0x8D#8] := by decide

theorem witness_IndirectLoads : ready (boot [0x91#8]) [0x91#8] ∧ ready (boot [0x92#8]) [0x92#8] := by decide

/-- Halted; the first illegal byte; the last legal one. -/
theorem witness_StepFetchesDecodesExecutes : { State.reset with f := 0x08#8 }.runState ≠ .running ∧
    (boot [0x93#8]).runState = .running ∧
    decode ((boot [0x93#8]).bytesAt 0x8000#16 4) = .rejected (.illegalOpcode 0x93#8) ∧
    (boot [0x92#8]).runState = .running ∧
    decode ((boot [0x92#8]).bytesAt 0x8000#16 4) = .instr .derefCD [0x00#8, 0x00#8, 0x00#8] := by decide

theorem witness_DecodeAndEncodeAgree : Instr.wellFormed (.stbMemImm 0x1234#16 0x5A#8) = true ∧
    decode [0x6A#8, 0x34#8, 0x12#8, 0x5A#8, 0x01#8] = .instr (.stbMemImm 0x1234#16 0x5A#8) [0x01#8] := by decide

theorem witness_IllegalOpcodesAreExactlyThose : (0x92#8).toNat < 0x93 ∧ ¬ (0x93#8).toNat < 0x93 ∧
    0x93 ≤ (0xFF#8).toNat := by decide

theorem witness_IllegalOpcodeException : (boot [0x93#8]).runState = .running ∧
    0x93 ≤ ((boot [0x93#8]).memRead (boot [0x93#8]).ip).toNat ∧ (boot [0xFF#8]).runState = .running ∧
    0x93 ≤ ((boot [0xFF#8]).memRead (boot [0xFF#8]).ip).toNat := by decide

/-- Halted, Faulted, both bits set, and Running at `MVB_F_A` with bit 3 of `A` set. -/
theorem witness_RunStates : { State.reset with f := 0x08#8 }.runState = .halted ∧
    { State.reset with fault := true }.runState = .faulted ∧
    { State.reset with fault := true, f := 0x08#8 }.runState = .faulted ∧
    ready (prog { State.reset with a := 0x08#8 } [0x77#8]) [0x77#8] := by decide

theorem witness_FaultBitIsSticky : { State.reset with fault := true }.fault = true ∧
    (boot [0x93#8]).runState = .running ∧ 0x93 ≤ ((boot [0x93#8]).memRead 0x8000#16).toNat := by decide

theorem witness_InsnIsLatchedAndNeverRead : (boot [0x93#8]).runState = .running ∧
    (boot [0x00#8]).runState = .running := by decide

/-- Opcodes on both sides of each excluded range. -/
theorem witness_ReservedFlagBitsAreInert : opcodeOf .mvbDC = 0x76 ∧ opcodeOf .mvbFA = 0x77 ∧ opcodeOf .mvbFD = 0x7A ∧
    opcodeOf .mvbDF = 0x7E ∧ opcodeOf (.jz 0x0000#16) = 0x7F ∧ opcodeOf .pushD = 0x85 ∧ opcodeOf .pushF = 0x86 ∧
    opcodeOf .popD = 0x8A ∧ opcodeOf .popF = 0x8B ∧ opcodeOf .pushIp = 0x8C := by decide

/-- The first and last opcodes of the two ranges, and the destinations there. -/
theorem witness_FlagEffectsOfEveryInstruction : opcodeOf .brk = 0x01 ∧ opcodeOf .adcAB = 0x02 ∧
    opcodeOf (.orDMem 0x0000#16) = 0x51 ∧ opcodeOf .notA = 0x52 ∧ opcodeOf (.shrDImm 0x00#8) = 0x5D ∧
    opcodeOf (.ldbAImm 0x00#8) = 0x5E ∧ aluForm .adcAB State.reset = some (.adc, .a, 0x00#8) ∧
    aluForm (.orDMem 0x0000#16) State.reset = some (.or, .d, 0x00#8) ∧ unaryDest .notA = some .a ∧
    unaryDest (.shrDImm 0x00#8) = some .d ∧ unaryDest .brk = none := by decide

/-- `n` at 0, 1, 255 and 256, and both logical operations. -/
theorem witness_CarryAfterArithmeticLogic :
    aluForm (.adcAImm 0x00#8) State.reset = some (.adc, .a, 0x00#8) ∧
    aluForm (.adcAImm 0x01#8) State.reset = some (.adc, .a, 0x01#8) ∧
    aluForm (.sbbDImm 0xFF#8) State.reset = some (.sbb, .d, 0xFF#8) ∧
    aluForm (.sbbDImm 0xFF#8) { State.reset with f := 0x02#8 } = some (.sbb, .d, 0xFF#8) ∧
    aluForm .andBC State.reset = some (.and, .b, 0x00#8) ∧
    aluForm (.orCMem 0xFFFF#16) State.reset = some (.or, .c, 0x00#8) := by decide

/-- A jump taken, one not taken, a `POP_IP`, an instruction at the top of memory, an illegal byte. -/
theorem witness_IpAfterAStep :
    decode ((prog { State.reset with f := 0x01#8 } [0x7F#8, 0x00#8, 0x90#8]).bytesAt 0x8000#16 4) =
      .instr (.jz 0x9000#16) [0x00#8] ∧
    decode ((boot [0x80#8, 0x00#8, 0x90#8]).bytesAt 0x8000#16 4) = .instr (.jg 0x9000#16) [0x00#8] ∧
    decode ((boot [0x8D#8]).bytesAt 0x8000#16 4) = .instr .popIp [0x00#8, 0x00#8, 0x00#8] ∧
    decode ((prog { State.reset with ip := 0xFFFE#16 } [0x6A#8, 0x34#8, 0x12#8, 0x5A#8]).bytesAt 0xFFFE#16 4) =
      .instr (.stbMemImm 0x1234#16 0x5A#8) [] ∧
    { State.reset with f := 0x01#8 }.runState = .running ∧ 0x93 ≤ ((boot [0x93#8]).memRead 0x8000#16).toNat := by
  decide

theorem witness_FetchPrimitives :
    (boot [0x34#8, 0x12#8]).bytesAt (boot [0x34#8, 0x12#8]).ip 2 = [0x34#8, 0x12#8] := by decide

theorem witness_StackHasNoBounds : { State.reset with sp := 0x0000#16 }.sp = 0x0000#16 ∧
    State.reset.sp = 0x7FFF#16 ∧ { State.reset with sp := 0x8000#16 }.ip = { State.reset with sp := 0x8000#16 }.sp ∧
    opcodeOf .pushA = 0x82 ∧ opcodeOf (.pushMem 0x00#8) = 0x90 := by decide

theorem witness_PushThenPopRestores :
    (.popD, .d) ∈ ([(.popA, .a), (.popB, .b), (.popC, .c), (.popD, .d)] : List (Instr × Reg)) := by decide

theorem witness_MemoryChangesOnlyWhereStored : (0x7FFE#16) ∉ [State.reset.sp] ∧
    (0x7FFD#16) ∉ [State.reset.sp, State.reset.sp - 1] ∧ (0x1235#16) ∉ [(0x1234#16)] := by decide

/-- The first and last opcodes of the ranges without a register destination. -/
theorem witness_AtMostOneRegisterAndNoLatch : opcodeOf .nop = 0x00 ∧ opcodeOf (.stbMemA 0x0000#16) = 0x66 ∧
    opcodeOf (.stbMemImm 0x0000#16 0x00#8) = 0x6A ∧ opcodeOf .mvbFA = 0x77 ∧ opcodeOf (.jz 0x0000#16) = 0x7F ∧
    opcodeOf .pushF = 0x86 ∧ opcodeOf .popF = 0x8B ∧ opcodeOf (.pushMem 0x00#8) = 0x90 := by decide

/-- The transactions of a `PUSH_MEM`: two stream reads, one data read, one stack write, in that order (R68). -/
theorem witness_TransactionsExplainMemory : transactions (boot [0x90#8, 0x10#8]) =
    [.read 0x8000#16 0x90#8, .read 0x8001#16 0x10#8, .read 0x0010#16 0x00#8, .write 0x7FFF#16 0x00#8] := by decide

/-- One instruction for each total of R68. -/
theorem witness_TransactionCounts :
    decode ((boot [0x00#8]).bytesAt 0x8000#16 4) = .instr .nop [0x00#8, 0x00#8, 0x00#8] ∧
    (transactions (boot [0x00#8])).length = 1 ∧
    (transactions (boot [0x91#8])).length = 2 ∧ (transactions (boot [0x8C#8])).length = 3 ∧
    (transactions (boot [0x12#8, 0x10#8, 0x00#8])).length = 4 ∧
    (transactions (boot [0x6A#8, 0x10#8, 0x00#8, 0x5A#8])).length = 5 := by decide

/-- `STB_MEM_IMM` writes the opcode of `BRK` right behind itself. -/
theorem witness_StoreIsSeenByTheNextFetch :
    ∃ t, step (boot [0x6A#8, 0x04#8, 0x80#8, 0x01#8]) = .next t ∧
      Transaction.write t.ip 0x01#8 ∈ transactions (boot [0x6A#8, 0x04#8, 0x80#8, 0x01#8]) ∧ t.runState = .running :=
  ⟨_, rfl, by decide, by decide⟩

/-- A byte with bit 3 clear and one with bit 3 set. -/
theorem witness_FlagsByteRoundTrip :
    (0x7A#8, .d) ∈ ([(0x77#8, .a), (0x78#8, .b), (0x79#8, .c), (0x7A#8, .d)] : List (Byte × Reg)) ∧
    (0x7B#8, .a) ∈ ([(0x7B#8, .a), (0x7C#8, .b), (0x7D#8, .c), (0x7E#8, .d)] : List (Byte × Reg)) ∧
    ready (prog { State.reset with d := 0xF7#8 } [0x7A#8, 0x7B#8]) [0x7A#8, 0x7B#8] ∧
    ready (prog { State.reset with d := 0x08#8 } [0x7A#8, 0x7B#8]) [0x7A#8, 0x7B#8] := by decide

theorem witness_TakenJumpToItselfRunsForever :
    (0x81#8, 1) ∈ ([(0x7F#8, 0), (0x80#8, 2), (0x81#8, 1)] : List (Byte × Nat)) ∧
    ready (prog { State.reset with f := 0x02#8 } (0x81#8 :: leBytes 0x8000#16)) (0x81#8 :: leBytes 0x8000#16) ∧
    { State.reset with f := 0x02#8 }.f.getLsbD 1 = true := by decide

theorem witness_StoppedCoreStaysAsItIs : ∃ t, stepMany 1 (boot [0x01#8]) = .next t ∧ t.runState ≠ .running :=
  ⟨_, rfl, by decide⟩

/-- A reset request from Halted and one from Faulted answer a Running state. -/
theorem witness_OnlyResetLeavesAStop :
    { State.reset with f := 0x08#8 }.runState ≠ .running ∧ { State.reset with fault := true }.runState ≠ .running ∧
    ∃ t, respond (.reset 0xFF#8) { State.reset with fault := true } = .next t ∧ t.runState = .running :=
  ⟨by decide, by decide, _, rfl, by decide⟩

/-- The invariant holds of a Running, of a Halted and of a Faulted state, and each of them steps. -/
theorem witness_StepKeepsTheInvariant :
    ((boot [0x93#8]).Inv ∧ ∃ t, step (boot [0x93#8]) = .next t) ∧
    ((boot [0x01#8]).Inv ∧ ∃ t, step (boot [0x01#8]) = .next t) ∧
    ({ boot [0x01#8] with f := 0x08#8, insn := 0x01#8 }.Inv ∧
      ∃ t, step { boot [0x01#8] with f := 0x08#8, insn := 0x01#8 } = .next t) ∧
    ({ boot [0x93#8] with fault := true, insn := 0x93#8 }.Inv ∧
      ∃ t, step { boot [0x93#8] with fault := true, insn := 0x93#8 } = .next t) := by
  refine ⟨⟨?_, _, rfl⟩, ⟨?_, _, rfl⟩, ⟨?_, _, rfl⟩, ⟨?_, _, rfl⟩⟩ <;> unfold State.Inv <;> decide

theorem witness_ResetHasTheInvariant : Memory.wf [(0x8000, 0x01#8)] = true := by decide

/-! ## Single steps beyond the examples of the rules -/

/-- An illegal byte: `INSN` and `FAULT` written, `IP` and the registers kept (R251, S7). -/
theorem test_step_illegal : after { State.reset with a := 0x12#8, f := 0x07#8 } [0xFF#8] fun t =>
    t.insn == 0xFF#8 && t.fault && t.ip == 0x8000#16 && t.a == 0x12#8 && t.f == 0x07#8 &&
    faultOutput t == some (.illegalOpcode 0xFF#8) && !continueOutput t := by decide

/-- A step request in Halted and in Faulted changes nothing (R36). -/
theorem test_step_stopped : (after { State.reset with f := 0x08#8 } [0x00#8] fun t =>
      t == prog { State.reset with f := 0x08#8 } [0x00#8]) = true ∧
    (after { State.reset with fault := true } [0x00#8] fun t =>
      t == prog { State.reset with fault := true } [0x00#8]) = true := by decide

/-- An instruction straddles the top of memory (R35), and a push wraps `SP` (R61). -/
theorem test_step_wraps : (after { State.reset with ip := 0xFFFE#16 } [0x6A#8, 0x34#8, 0x12#8, 0x5A#8] fun t =>
      t.memRead 0x1234#16 == 0x5A#8 && t.ip == 0x0002#16) = true ∧
    (after { State.reset with sp := 0x0000#16 } [0x8C#8] fun t =>
      t.memRead 0x0000#16 == 0x80#8 && t.memRead 0xFFFF#16 == 0x01#8 && t.sp == 0xFFFE#16) = true := by decide

/-- Reset from a Faulted state: the values of R40, memory kept (R281, R284). -/
theorem test_reset : ∃ t, respond (.reset 0x5A#8) (prog { State.reset with fault := true, a := 0x01#8 } [0x93#8]) = .next t ∧
    t = { prog State.reset [0x93#8] with insn := 0x5A#8 } := ⟨_, rfl, by decide⟩

/-- The words of the opcode table, numbered as the host numbers them, decode and run from reset. -/
theorem test_table_words : decodeTableWord 8 0x02 = some .adcAB ∧ decodeTableWord 24 0x92340E = some (.adcAImm 0x34#8) ∧
    decodeTableWord 32 0x5A12346A = some (.stbMemImm 0x1234#16 0x5A#8) ∧
    decodeTableWord 8 0x6A = some (.stbMemImm 0x0000#16 0x00#8) ∧ decodeTableWord 8 0x93 = none := by decide

theorem test_withFetchWord : ∃ t, step (State.reset.withFetchWord 32 0x5A12346A) = .next t ∧
    t.memRead 0x1234#16 = 0x5A#8 ∧ t.ip = 0x8004#16 ∧ t.insn = 0x6A#8 := ⟨_, rfl, by decide⟩

end Sys2Proof.Tests
end

section
/-! PROOFS. The 147 instructions fall into seventeen shapes. `shapeOf` names the shape of each, `Shape.run` says what a shape
does, and `exec_eq` ties both to `exec`; a statement over every instruction is then a case split over the shapes. -/

namespace Sys2Proof.Proofs

open Sys2Proof.Machine Sys2Proof.Claims

/-- Where an operand byte comes from (R83). -/
inductive Operand where
  | reg (q : Reg)
  | imm (v : Byte)
  | mem (ea : Addr)

/-- The operand byte in a state. -/
def Operand.value : Operand → State → Byte
  | .reg q, s => s.reg q
  | .imm v, _ => v
  | .mem ea, s => s.memRead ea

/-- The one-register operations (R182 to R193). -/
inductive UnaryOp where
  | not
  | shl (n : Byte)
  | shr (n : Byte)

/-- The result of a one-register operation. -/
def UnaryOp.result : UnaryOp → Byte → Byte
  | .not, x => notResult x
  | .shl n, x => shlResult x n
  | .shr n, x => shrResult x n

/-- The result of an arithmetic-logic operation on the old register, the operand and the incoming Carry. -/
def aluResult : AluOp → Byte → Byte → Bool → Byte
  | .adc, old, v, c => adcResult old v c
  | .sbb, old, v, c => sbbResult old v c
  | .and, old, v, _ => old &&& v
  | .or, old, v, _ => old ||| v

/-- What an instruction does, up to the choice of registers, operands and flags. -/
inductive Shape where
  | nop
  | brk
  | alu (o : AluOp) (r : Reg) (x : Operand)
  | unary (u : UnaryOp) (r : Reg)
  | load (r : Reg) (x : Operand)
  | store (ea : Addr) (x : Operand)
  | toF (r : Reg)
  | fromF (r : Reg)
  | jump (n : Flag) (w : Addr)
  | push (x : Operand)
  | pushF
  | pop (r : Reg)
  | popF
  | pushIp
  | popIp
  | popDiscard
  | deref (hi lo : Reg)

/-- The state after an instruction of this shape. -/
def Shape.run : Shape → State → State
  | .nop, s => s
  | .brk, s => s.setF (setHalt s.f)
  | .alu o r x, s => writeAlu r (aluResult o (s.reg r) (x.value s) (s.flag .carry)) s
  | .unary u r, s => writeUnary r (u.result (s.reg r)) s
  | .load r x, s => s.setReg r (x.value s)
  | .store ea x, s => s.memWrite ea (x.value s)
  | .toF r, s => s.setF (s.reg r)
  | .fromF r, s => s.setReg r s.f
  | .jump n w, s => jumpIf n w s
  | .push x, s => push8 (x.value s) s
  | .pushF, s => push8 s.f s
  | .pop r, s => popReg r s
  | .popF, s => (pop8 s).2.setF (pop8 s).1
  | .pushIp, s => push16 s.ip s
  | .popIp, s => (pop16 s).2.setIp (pop16 s).1
  | .popDiscard, s => (pop8 s).2
  | .deref hi lo, s => derefPair hi lo s

/-- The shape of each instruction. -/
def shapeOf : Instr → Shape
  | .nop => .nop
  | .brk => .brk
  | .adcAB => .alu .adc .a (.reg .b)
  | .adcAC => .alu .adc .a (.reg .c)
  | .adcAD => .alu .adc .a (.reg .d)
  | .adcBA => .alu .adc .b (.reg .a)
  | .adcBC => .alu .adc .b (.reg .c)
  | .adcBD => .alu .adc .b (.reg .d)
  | .adcCA => .alu .adc .c (.reg .a)
  | .adcCB => .alu .adc .c (.reg .b)
  | .adcCD => .alu .adc .c (.reg .d)
  | .adcDA => .alu .adc .d (.reg .a)
  | .adcDB => .alu .adc .d (.reg .b)
  | .adcDC => .alu .adc .d (.reg .c)
  | .adcAImm v => .alu .adc .a (.imm v)
  | .adcBImm v => .alu .adc .b (.imm v)
  | .adcCImm v => .alu .adc .c (.imm v)
  | .adcDImm v => .alu .adc .d (.imm v)
  | .adcAMem ea => .alu .adc .a (.mem ea)
  | .adcBMem ea => .alu .adc .b (.mem ea)
  | .adcCMem ea => .alu .adc .c (.mem ea)
  | .adcDMem ea => .alu .adc .d (.mem ea)
  | .sbbAB => .alu .sbb .a (.reg .b)
  | .sbbAC => .alu .sbb .a (.reg .c)
  | .sbbAD => .alu .sbb .a (.reg .d)
  | .sbbBA => .alu .sbb .b (.reg .a)
  | .sbbBC => .alu .sbb .b (.reg .c)
  | .sbbBD => .alu .sbb .b (.reg .d)
  | .sbbCA => .alu .sbb .c (.reg .a)
  | .sbbCB => .alu .sbb .c (.reg .b)
  | .sbbCD => .alu .sbb .c (.reg .d)
  | .sbbDA => .alu .sbb .d (.reg .a)
  | .sbbDB => .alu .sbb .d (.reg .b)
  | .sbbDC => .alu .sbb .d (.reg .c)
  | .sbbAImm v => .alu .sbb .a (.imm v)
  | .sbbBImm v => .alu .sbb .b (.imm v)
  | .sbbCImm v => .alu .sbb .c (.imm v)
  | .sbbDImm v => .alu .sbb .d (.imm v)
  | .sbbAMem ea => .alu .sbb .a (.mem ea)
  | .sbbBMem ea => .alu .sbb .b (.mem ea)
  | .sbbCMem ea => .alu .sbb .c (.mem ea)
  | .sbbDMem ea => .alu .sbb .d (.mem ea)
  | .andAB => .alu .and .a (.reg .b)
  | .andAC => .alu .and .a (.reg .c)
  | .andAD => .alu .and .a (.reg .d)
  | .andBA => .alu .and .b (.reg .a)
  | .andBC => .alu .and .b (.reg .c)
  | .andBD => .alu .and .b (.reg .d)
  | .andCA => .alu .and .c (.reg .a)
  | .andCB => .alu .and .c (.reg .b)
  | .andCD => .alu .and .c (.reg .d)
  | .andDA => .alu .and .d (.reg .a)
  | .andDB => .alu .and .d (.reg .b)
  | .andDC => .alu .and .d (.reg .c)
  | .andAImm v => .alu .and .a (.imm v)
  | .andBImm v => .alu .and .b (.imm v)
  | .andCImm v => .alu .and .c (.imm v)
  | .andDImm v => .alu .and .d (.imm v)
  | .andAMem ea => .alu .and .a (.mem ea)
  | .andBMem ea => .alu .and .b (.mem ea)
  | .andCMem ea => .alu .and .c (.mem ea)
  | .andDMem ea => .alu .and .d (.mem ea)
  | .orAB => .alu .or .a (.reg .b)
  | .orAC => .alu .or .a (.reg .c)
  | .orAD => .alu .or .a (.reg .d)
  | .orBA => .alu .or .b (.reg .a)
  | .orBC => .alu .or .b (.reg .c)
  | .orBD => .alu .or .b (.reg .d)
  | .orCA => .alu .or .c (.reg .a)
  | .orCB => .alu .or .c (.reg .b)
  | .orCD => .alu .or .c (.reg .d)
  | .orDA => .alu .or .d (.reg .a)
  | .orDB => .alu .or .d (.reg .b)
  | .orDC => .alu .or .d (.reg .c)
  | .orAImm v => .alu .or .a (.imm v)
  | .orBImm v => .alu .or .b (.imm v)
  | .orCImm v => .alu .or .c (.imm v)
  | .orDImm v => .alu .or .d (.imm v)
  | .orAMem ea => .alu .or .a (.mem ea)
  | .orBMem ea => .alu .or .b (.mem ea)
  | .orCMem ea => .alu .or .c (.mem ea)
  | .orDMem ea => .alu .or .d (.mem ea)
  | .notA => .unary .not .a
  | .notB => .unary .not .b
  | .notC => .unary .not .c
  | .notD => .unary .not .d
  | .shlAImm n => .unary (.shl n) .a
  | .shlBImm n => .unary (.shl n) .b
  | .shlCImm n => .unary (.shl n) .c
  | .shlDImm n => .unary (.shl n) .d
  | .shrAImm n => .unary (.shr n) .a
  | .shrBImm n => .unary (.shr n) .b
  | .shrCImm n => .unary (.shr n) .c
  | .shrDImm n => .unary (.shr n) .d
  | .ldbAImm v => .load .a (.imm v)
  | .ldbBImm v => .load .b (.imm v)
  | .ldbCImm v => .load .c (.imm v)
  | .ldbDImm v => .load .d (.imm v)
  | .ldbAMem ea => .load .a (.mem ea)
  | .ldbBMem ea => .load .b (.mem ea)
  | .ldbCMem ea => .load .c (.mem ea)
  | .ldbDMem ea => .load .d (.mem ea)
  | .stbMemA ea => .store ea (.reg .a)
  | .stbMemB ea => .store ea (.reg .b)
  | .stbMemC ea => .store ea (.reg .c)
  | .stbMemD ea => .store ea (.reg .d)
  | .stbMemImm ea v => .store ea (.imm v)
  | .mvbAB => .load .a (.reg .b)
  | .mvbAC => .load .a (.reg .c)
  | .mvbAD => .load .a (.reg .d)
  | .mvbBA => .load .b (.reg .a)
  | .mvbBC => .load .b (.reg .c)
  | .mvbBD => .load .b (.reg .d)
  | .mvbCA => .load .c (.reg .a)
  | .mvbCB => .load .c (.reg .b)
  | .mvbCD => .load .c (.reg .d)
  | .mvbDA => .load .d (.reg .a)
  | .mvbDB => .load .d (.reg .b)
  | .mvbDC => .load .d (.reg .c)
  | .mvbFA => .toF .a
  | .mvbFB => .toF .b
  | .mvbFC => .toF .c
  | .mvbFD => .toF .d
  | .mvbAF => .fromF .a
  | .mvbBF => .fromF .b
  | .mvbCF => .fromF .c
  | .mvbDF => .fromF .d
  | .jz w => .jump .zero w
  | .jg w => .jump .greater w
  | .jc w => .jump .carry w
  | .pushA => .push (.reg .a)
  | .pushB => .push (.reg .b)
  | .pushC => .push (.reg .c)
  | .pushD => .push (.reg .d)
  | .pushF => .pushF
  | .popA => .pop .a
  | .popB => .pop .b
  | .popC => .pop .c
  | .popD => .pop .d
  | .popF => .popF
  | .pushIp => .pushIp
  | .popIp => .popIp
  | .popDiscard => .popDiscard
  | .pushImm v => .push (.imm v)
  | .pushMem z => .push (.mem (zext16 z))
  | .derefAB => .deref .b .a
  | .derefCD => .deref .d .c

/-- Every instruction completes, and does what its shape does. -/
theorem exec_eq (i : Instr) (s : State) : exec i s = .next ((shapeOf i).run s) := by
  cases i <;> rfl

/-! ## One equation per shape, down to the updates of `State` -/

section

variable (s : State) (o : AluOp) (u : UnaryOp) (r hi lo : Reg) (x : Operand) (n : Flag) (w : Addr)

@[simp] theorem run_nop : Shape.nop.run s = s := rfl
@[simp] theorem run_brk : Shape.brk.run s = s.setF (setHalt s.f) := rfl
@[simp] theorem run_alu : (Shape.alu o r x).run s =
    (s.setReg r (aluResult o (s.reg r) (x.value s) (s.flag .carry))).setF
      (setZCG s.f (s.reg r) (aluResult o (s.reg r) (x.value s) (s.flag .carry))) := rfl
@[simp] theorem run_unary : (Shape.unary u r).run s =
    (s.setReg r (u.result (s.reg r))).setF (setZ s.f (u.result (s.reg r))) := rfl
@[simp] theorem run_load : (Shape.load r x).run s = s.setReg r (x.value s) := rfl
@[simp] theorem run_store : (Shape.store w x).run s = s.memWrite w (x.value s) := rfl
@[simp] theorem run_toF : (Shape.toF r).run s = s.setF (s.reg r) := rfl
@[simp] theorem run_fromF : (Shape.fromF r).run s = s.setReg r s.f := rfl
@[simp] theorem run_jump : (Shape.jump n w).run s = s.setIp (if s.flag n then w else s.ip) := jumpIf_eq n w s
@[simp] theorem run_push : (Shape.push x).run s = (s.memWrite s.sp (x.value s)).setSp (s.sp - 1) := rfl
@[simp] theorem run_pushF : Shape.pushF.run s = (s.memWrite s.sp s.f).setSp (s.sp - 1) := rfl
@[simp] theorem run_pop : (Shape.pop r).run s = (s.setSp (s.sp + 1)).setReg r (s.memRead (s.sp + 1)) := rfl
@[simp] theorem run_popF : Shape.popF.run s = (s.setSp (s.sp + 1)).setF (s.memRead (s.sp + 1)) := rfl
@[simp] theorem run_pushIp : Shape.pushIp.run s =
    ((s.memWrite s.sp (highByte s.ip)).memWrite (s.sp - 1) (lowByte s.ip)).setSp (s.sp - 2) := push16_eq s.ip s
@[simp] theorem run_popIp : Shape.popIp.run s =
    (s.setSp (s.sp + 2)).setIp (joinBytes (s.memRead (s.sp + 2)) (s.memRead (s.sp + 1))) := by
  rw [Shape.run, pop16_eq]
@[simp] theorem run_popDiscard : Shape.popDiscard.run s = s.setSp (s.sp + 1) := rfl
@[simp] theorem run_deref : (Shape.deref hi lo).run s =
    s.setReg lo (s.memRead (joinBytes (s.reg hi) (s.reg lo))) := rfl

end

/-! ## Shapes and the tables of the specification -/

/-- The first and the last opcode of the rows of R85 with this shape. -/
def Shape.opcodes : Shape → Nat × Nat
  | .nop => (0x00, 0x00)
  | .brk => (0x01, 0x01)
  | .alu .adc _ _ => (0x02, 0x15)
  | .alu .sbb _ _ => (0x16, 0x29)
  | .alu .and _ _ => (0x2A, 0x3D)
  | .alu .or _ _ => (0x3E, 0x51)
  | .unary _ _ => (0x52, 0x5D)
  | .load _ (.reg _) => (0x6B, 0x76)
  | .load _ (.imm _) => (0x5E, 0x61)
  | .load _ (.mem _) => (0x62, 0x65)
  | .store _ _ => (0x66, 0x6A)
  | .toF .a => (0x77, 0x77)
  | .toF .b => (0x78, 0x78)
  | .toF .c => (0x79, 0x79)
  | .toF .d => (0x7A, 0x7A)
  | .fromF _ => (0x7B, 0x7E)
  | .jump _ _ => (0x7F, 0x81)
  | .push (.reg _) => (0x82, 0x85)
  | .push (.imm _) => (0x8F, 0x8F)
  | .push (.mem _) => (0x90, 0x90)
  | .pushF => (0x86, 0x86)
  | .pop _ => (0x87, 0x8A)
  | .popF => (0x8B, 0x8B)
  | .pushIp => (0x8C, 0x8C)
  | .popIp => (0x8D, 0x8D)
  | .popDiscard => (0x8E, 0x8E)
  | .deref _ _ => (0x91, 0x92)

/-- The opcode byte of an instruction lies in the range of its shape (R85). -/
theorem opcodeOf_mem_opcodes (i : Instr) :
    (shapeOf i).opcodes.1 ≤ opcodeOf i ∧ opcodeOf i ≤ (shapeOf i).opcodes.2 := by
  cases i <;> exact ⟨Nat.le_of_ble_eq_true rfl, Nat.le_of_ble_eq_true rfl⟩

theorem opcodeOf_of_alu {i : Instr} {o : AluOp} {r : Reg} {x : Operand} (h : shapeOf i = .alu o r x) :
    0x02 ≤ opcodeOf i ∧ opcodeOf i ≤ 0x51 := by
  have hrange := opcodeOf_mem_opcodes i
  cases o <;> simp only [h, Shape.opcodes] at hrange <;> omega

theorem opcodeOf_of_load {i : Instr} {r : Reg} {x : Operand} (h : shapeOf i = .load r x) :
    (0x5E ≤ opcodeOf i ∧ opcodeOf i ≤ 0x65) ∨ (0x6B ≤ opcodeOf i ∧ opcodeOf i ≤ 0x76) := by
  have hrange := opcodeOf_mem_opcodes i
  cases x <;> simp only [h, Shape.opcodes] at hrange <;> omega

theorem opcodeOf_of_push {i : Instr} {x : Operand} (h : shapeOf i = .push x) :
    (0x82 ≤ opcodeOf i ∧ opcodeOf i ≤ 0x85) ∨ (0x8F ≤ opcodeOf i ∧ opcodeOf i ≤ 0x90) := by
  have hrange := opcodeOf_mem_opcodes i
  cases x <;> simp only [h, Shape.opcodes] at hrange <;> omega

/-- Whether a shape writes all eight bits of `F` (R28). -/
def Shape.writesWholeF : Shape → Bool
  | .toF _ | .popF => true
  | _ => false

/-- The whole-byte writers of `F` are opcodes 77 to 7A and 8B. -/
theorem writesWholeF_iff_opcode (i : Instr) :
    (shapeOf i).writesWholeF = true ↔ (0x77 ≤ opcodeOf i ∧ opcodeOf i ≤ 0x7A) ∨ opcodeOf i = 0x8B := by
  have hrange := opcodeOf_mem_opcodes i
  cases hs : shapeOf i with
  | alu o r x => have := opcodeOf_of_alu hs; simp only [Shape.writesWholeF, Bool.false_eq_true, false_iff]; omega
  | load r x => have := opcodeOf_of_load hs; simp only [Shape.writesWholeF, Bool.false_eq_true, false_iff]; omega
  | push x => have := opcodeOf_of_push hs; simp only [Shape.writesWholeF, Bool.false_eq_true, false_iff]; omega
  | toF r => cases r <;> simp only [hs, Shape.opcodes] at hrange <;> simp only [Shape.writesWholeF, true_iff] <;> omega
  | popF => simp only [hs, Shape.opcodes] at hrange; simp only [Shape.writesWholeF, true_iff]; omega
  | _ => simp only [hs, Shape.opcodes] at hrange; simp only [Shape.writesWholeF, Bool.false_eq_true, false_iff]; omega

/-- `aluForm`, read off the shape. -/
def Shape.aluForm : Shape → State → Option (AluOp × Reg × Byte)
  | .alu o r x, s => some (o, r, x.value s)
  | _, _ => none

theorem aluForm_eq (i : Instr) (s : State) : aluForm i s = (shapeOf i).aluForm s := by
  cases i <;> rfl

/-- `unaryDest`, read off the shape. -/
def Shape.unaryDest : Shape → Option Reg
  | .unary _ r => some r
  | _ => none

theorem unaryDest_eq (i : Instr) : unaryDest i = (shapeOf i).unaryDest := by
  cases i <;> rfl

/-! ## What a shape writes and what it leaves alone -/

/-- The general register a shape may write. -/
def Shape.dest : Shape → Option Reg
  | .alu _ r _ | .unary _ r | .load r _ | .fromF r | .pop r | .deref _ r => some r
  | _ => none

theorem run_reg_of_ne_dest (sh : Shape) (s : State) {q : Reg} (h : some q ≠ sh.dest) :
    (sh.run s).reg q = s.reg q := by
  cases sh <;> simp_all [Shape.dest]

@[simp] theorem run_fault (sh : Shape) (s : State) : (sh.run s).fault = s.fault := by
  cases sh <;> simp

@[simp] theorem run_insn (sh : Shape) (s : State) : (sh.run s).insn = s.insn := by
  cases sh <;> simp

/-- Where a shape leaves `SP` (R33). -/
def Shape.spAfter : Shape → Addr → Addr
  | .push _, w | .pushF, w => w - 1
  | .pushIp, w => w - 2
  | .pop _, w | .popF, w | .popDiscard, w => w + 1
  | .popIp, w => w + 2
  | _, w => w

theorem run_sp (sh : Shape) (s : State) : (sh.run s).sp = sh.spAfter s.sp := by
  cases sh <;> simp [Shape.spAfter]

/-- Where a shape leaves `IP` (R35). -/
def Shape.ipAfter : Shape → State → Addr
  | .jump n w, s => if s.flag n then w else s.ip
  | .popIp, s => joinBytes (s.memRead (s.sp + 2)) (s.memRead (s.sp + 1))
  | _, s => s.ip

theorem run_ip (sh : Shape) (s : State) : (sh.run s).ip = sh.ipAfter s := by
  cases sh <;> simp [Shape.ipAfter]

end Sys2Proof.Proofs
end

section
/-! PROOFS. From the opcode byte to the instruction: the rows of the opcode map, the fetch, the decoder, and what a step from
Running does, said once in terms of shapes. -/

namespace Sys2Proof.Proofs

open Sys2Proof.Machine Sys2Proof.Claims

/-! ## The rows of the opcode map -/

/-- Whatever its operand bytes, the row makes instructions of opcode `n` and of the row's own format. -/
def Makes (n : Nat) : Template → Prop
  | .f0 i => opcodeOf i = n ∧ i.format = .f0
  | .fi mk => ∀ v, opcodeOf (mk v) = n ∧ (mk v).format = .fi
  | .fz mk => ∀ z, opcodeOf (mk z) = n ∧ (mk z).format = .fz
  | .fa mk => ∀ ea, opcodeOf (mk ea) = n ∧ (mk ea).format = .fa
  | .fai mk => ∀ ea v, opcodeOf (mk ea v) = n ∧ (mk ea v).format = .fai

/-- The rows make the opcodes `n`, `n + 1`, … in order. -/
def RowsMake : Nat → List Template → Prop
  | _, [] => True
  | n, t :: ts => Makes n t ∧ RowsMake (n + 1) ts

theorem RowsMake.getElem? {n k : Nat} {ts : List Template} {t : Template} (h : RowsMake n ts) (ht : ts[k]? = some t) :
    Makes (n + k) t := by
  induction ts generalizing n k with
  | nil => simp at ht
  | cons u us ih =>
    obtain ⟨hu, hus⟩ := h
    cases k with
    | zero =>
      obtain rfl : u = t := by simpa using ht
      exact hu
    | succ k =>
      have := ih hus (by simpa using ht)
      rwa [Nat.add_right_comm] at this

/-- The rows stand in the order of their opcodes (R85). -/
theorem opcodeRows_make : RowsMake 0 opcodeRows := by
  simp [opcodeRows, rowsNopHalt, rowsAdc, rowsSbb, rowsAnd, rowsOr, rowsNotShift, rowsLoadStoreMove, rowsJump,
    rowsStack, rowsDeref, RowsMake, Makes, opcodeOf, encode, Instr.format]

theorem makes_of_opcodeMap {op : Byte} {t : Template} (h : opcodeMap op = some t) : Makes op.toNat t := by
  simpa using opcodeRows_make.getElem? h

/-- A byte is illegal exactly when it is 0x93 or more (R86). -/
theorem opcodeMap_eq_none_iff (op : Byte) : opcodeMap op = none ↔ 0x93 ≤ op.toNat :=
  List.getElem?_eq_none_iff

/-! ## The fetch -/

@[simp] theorem setIp_setIp (s : State) (w w' : Addr) : (s.setIp w).setIp w' = s.setIp w' := rfl

/-- Fetching the operands of a row makes an instruction of the row's opcode and moves `IP` to its end, nothing else. -/
theorem fetchOperands_spec {n : Nat} {t : Template} (ht : Makes n t) (s : State) (w : Addr) :
    opcodeOf (fetchOperands t (s.setIp (w + 1))).1 = n ∧
    (fetchOperands t (s.setIp (w + 1))).2 =
      s.setIp (w + BitVec.ofNat 16 (fetchOperands t (s.setIp (w + 1))).1.length) := by
  cases t with
  | f0 i =>
    obtain ⟨hn, hf⟩ := ht
    exact ⟨hn, by simp [fetchOperands, Instr.length, hf, Format.length]⟩
  | fi mk =>
    refine ⟨(ht _).1, ?_⟩
    simp [fetchOperands, fetch8_eq, Instr.length, (ht _).2, Format.length, BitVec.add_assoc]
  | fz mk =>
    refine ⟨(ht _).1, ?_⟩
    simp [fetchOperands, fetch8_eq, Instr.length, (ht _).2, Format.length, BitVec.add_assoc]
  | fa mk =>
    refine ⟨(ht _).1, ?_⟩
    simp [fetchOperands, fetch16_eq, Instr.length, (ht _).2, Format.length, BitVec.add_assoc]
  | fai mk =>
    refine ⟨(ht _ _).1, ?_⟩
    simp [fetchOperands, fetch16_eq, fetch8_eq, Instr.length, (ht _ _).2, Format.length, BitVec.add_assoc]

/-- The state that an instruction of this length runs on: the opcode latched, `IP` past its bytes (R84). -/
def fetched (s : State) (length : Nat) : State :=
  (s.latch (s.memRead s.ip)).setIp (s.ip + BitVec.ofNat 16 length)

section

variable (s : State) (k : Nat)

@[simp] theorem fetched_reg (q : Reg) : (fetched s k).reg q = s.reg q := by simp [fetched]
@[simp] theorem fetched_a : (fetched s k).a = s.a := rfl
@[simp] theorem fetched_b : (fetched s k).b = s.b := rfl
@[simp] theorem fetched_c : (fetched s k).c = s.c := rfl
@[simp] theorem fetched_d : (fetched s k).d = s.d := rfl
@[simp] theorem fetched_f : (fetched s k).f = s.f := rfl
@[simp] theorem fetched_sp : (fetched s k).sp = s.sp := rfl
@[simp] theorem fetched_ip : (fetched s k).ip = s.ip + BitVec.ofNat 16 k := rfl
@[simp] theorem fetched_insn : (fetched s k).insn = s.memRead s.ip := rfl
@[simp] theorem fetched_fault : (fetched s k).fault = s.fault := rfl
@[simp] theorem fetched_memRead (a : Addr) : (fetched s k).memRead a = s.memRead a := rfl
@[simp] theorem fetched_flag (n : Flag) : (fetched s k).flag n = s.flag n := rfl

end

/-- The fetch answers an illegal byte, or the instruction of that opcode with its bytes passed. -/
theorem fetchInstr_spec (s : State) :
    (0x93 ≤ (s.memRead s.ip).toNat ∧ fetchInstr s = .illegal (s.memRead s.ip)) ∨
    ∃ i, opcodeOf i = (s.memRead s.ip).toNat ∧ fetchInstr s = .instr i (fetched s i.length) := by
  cases h : opcodeMap (s.memRead s.ip) with
  | none => exact .inl ⟨(opcodeMap_eq_none_iff _).1 h, by simp [fetchInstr, h]⟩
  | some t =>
    obtain ⟨hop, hs⟩ := fetchOperands_spec (makes_of_opcodeMap h) (s.latch (s.memRead s.ip)) s.ip
    exact .inr ⟨_, hop, by simp only [fetchInstr, h, hs, fetched]⟩

/-- No instruction has an illegal opcode byte. -/
theorem opcodeOf_lt (i : Instr) : opcodeOf i < 0x93 := by
  cases i <;> exact Nat.le_of_ble_eq_true rfl

/-- The decoder on the bytes at `IP` reads the operands that the fetch fetches. -/
theorem readOperands_bytesAt (op : Byte) (t : Template) (s : State) :
    ∃ rest, readOperands op t (s.bytesAt s.ip 3) = .instr (fetchOperands t s).1 rest := by
  cases t <;> exact ⟨_, rfl⟩

/-- What the decoder reads from the bytes at `IP` is what the fetch answers. -/
theorem fetchInstr_of_decode {s : State} {i : Instr} {rest : List Byte} (h : decode (s.bytesAt s.ip 4) = .instr i rest) :
    fetchInstr s = .instr i (fetched s i.length) := by
  cases hm : opcodeMap (s.memRead s.ip) with
  | none => simp [State.bytesAt, decode, hm] at h
  | some t =>
    obtain ⟨rest', hr⟩ :=
      readOperands_bytesAt (s.memRead s.ip) t ((s.latch (s.memRead s.ip)).setIp (s.ip + 1))
    have hd : decode (s.bytesAt s.ip 4) = readOperands (s.memRead s.ip) t
        (((s.latch (s.memRead s.ip)).setIp (s.ip + 1)).bytesAt (s.ip + 1) 3) := by
      simp only [State.bytesAt, decode, hm]
      rfl
    obtain ⟨-, hs⟩ := fetchOperands_spec (makes_of_opcodeMap hm) (s.latch (s.memRead s.ip)) s.ip
    rw [hd] at h
    obtain ⟨rfl, -⟩ : i = _ ∧ _ := Decoded.instr.inj (h.symm.trans hr)
    simp only [fetchInstr, hm, hs, fetched]

/-! ## The step -/

theorem step_of_fetched {s : State} {i : Instr} (hr : s.runState = .running)
    (hf : fetchInstr s = .instr i (fetched s i.length)) : step s = .next ((shapeOf i).run (fetched s i.length)) :=
  (step_of_instr hr hf).trans (exec_eq i _)

/-- A step from Running takes the exception at an illegal byte, and else runs the instruction of the opcode at `IP`. -/
theorem step_spec {s : State} (hr : s.runState = .running) :
    (0x93 ≤ (s.memRead s.ip).toNat ∧ step s = .next (raiseIllegalOpcode (s.memRead s.ip) s)) ∨
    ∃ i, opcodeOf i = (s.memRead s.ip).toNat ∧ step s = .next ((shapeOf i).run (fetched s i.length)) := by
  obtain ⟨hb, hf⟩ | ⟨i, hi, hf⟩ := fetchInstr_spec s
  · exact .inl ⟨hb, step_of_illegal hr hf⟩
  · exact .inr ⟨i, hi, step_of_fetched hr hf⟩

/-- A step at an illegal byte takes the exception (R251). -/
theorem step_of_illegal_byte {s : State} (hr : s.runState = .running) (hb : 0x93 ≤ (s.memRead s.ip).toNat) :
    step s = .next (raiseIllegalOpcode (s.memRead s.ip) s) := by
  obtain ⟨-, h⟩ | ⟨i, hi, -⟩ := step_spec hr
  · exact h
  · have := opcodeOf_lt i
    omega

/-- A step at the opcode of a one-byte instruction runs its shape. -/
theorem step_of_one_byte {s : State} {i : Instr} (hr : s.runState = .running)
    (hm : opcodeMap (s.memRead s.ip) = some (.f0 i)) : step s = .next ((shapeOf i).run (fetched s 1)) := by
  have hf : fetchInstr s = .instr i (fetched s 1) := by
    simp only [fetchInstr, hm, fetchOperands]
    rfl
  exact (step_of_instr hr hf).trans (exec_eq i _)

end Sys2Proof.Proofs
end

section
/-! PROOFS. What a step keeps, and how it can stop: `SP`, `IP`, the latches, the run states, whole runs (R33 to R38, R288). -/

namespace Sys2Proof.Proofs

open Sys2Proof.Machine Sys2Proof.Claims

@[simp] theorem applyReset_f (v : Byte) (s : State) : (applyReset v s).f = 0#8 := rfl
@[simp] theorem applyReset_flag (v : Byte) (s : State) (n : Flag) : (applyReset v s).flag n = false := by
  simp [State.flag, getFlag]
@[simp] theorem applyReset_fault (v : Byte) (s : State) : (applyReset v s).fault = false := rfl
@[simp] theorem applyReset_runState (v : Byte) (s : State) : (applyReset v s).runState = .running := by
  simp [State.runState]

/-- Settles O51: memory is the only thing reset keeps, and no flag or `FAULT` is set after it. -/
theorem resetHasTheInvariant : Obligations.ResetHasTheInvariant := by
  unfold Obligations.ResetHasTheInvariant
  have inv_applyReset (v : Byte) (s : State) (hm : s.mem.wf = true) : (applyReset v s).Inv :=
    ⟨hm, by simp, by simp⟩
  exact ⟨inv_applyReset Config.insnReset State.reset Memory.wf_nil, inv_applyReset⟩

/-- Settles O32, by `run_sp`: the shapes that move `SP` are the pushes and the pops. -/
theorem spMovesOnlyByPushAndPop : Obligations.SpMovesOnlyByPushAndPop := by
  unfold Obligations.SpMovesOnlyByPushAndPop
  refine ⟨rfl, fun i s => ⟨_, exec_eq i s, (run_sp _ s).trans ?_⟩⟩
  cases i <;> rfl

/-- Settles O33, by `run_ip` on the fetched state: the shapes that set `IP` are the jumps and `POP_IP`. -/
theorem ipAfterAStep : Obligations.IpAfterAStep := by
  unfold Obligations.IpAfterAStep
  refine ⟨fun s i rest hr hd => ?_, fun s hr hb => ⟨_, step_of_illegal_byte hr hb, rfl⟩⟩
  refine ⟨_, step_of_fetched hr (fetchInstr_of_decode hd), (run_ip _ _).trans ?_⟩
  cases i
  case popIp =>
    apply BitVec.eq_of_toNat_eq
    have hlo := (s.memRead (s.sp + 1)).isLt
    have hhi := (s.memRead (s.sp + 2)).isLt
    simp only [shapeOf, Shape.ipAfter, joinBytes_toNat, fetched_memRead, fetched_sp, BitVec.toNat_ofNat]
    omega
  all_goals rfl

/-- A shape without a destination is what the opcode ranges of R21 name. -/
theorem dest_eq_none_of_opcode {i : Instr} (h : opcodeOf i ≤ 0x01 ∨ (0x66 ≤ opcodeOf i ∧ opcodeOf i ≤ 0x6A) ∨
    (0x77 ≤ opcodeOf i ∧ opcodeOf i ≤ 0x7A) ∨ (0x7F ≤ opcodeOf i ∧ opcodeOf i ≤ 0x86) ∨
    (0x8B ≤ opcodeOf i ∧ opcodeOf i ≤ 0x90)) : (shapeOf i).dest = none := by
  have hrange := opcodeOf_mem_opcodes i
  cases hs : shapeOf i with
  | alu o r x => have := opcodeOf_of_alu hs; omega
  | load r x => have := opcodeOf_of_load hs; omega
  | unary | fromF | pop | deref => simp only [hs, Shape.opcodes] at hrange; omega
  | nop | brk | store | toF | jump | push | pushF | popF | pushIp | popIp | popDiscard => rfl

/-- Settles O40: a shape writes no register but its destination, and the opcode ranges named have none. -/
theorem atMostOneRegisterAndNoLatch : Obligations.AtMostOneRegisterAndNoLatch := by
  unfold Obligations.AtMostOneRegisterAndNoLatch
  refine fun i s => ⟨_, exec_eq i s, run_fault _ s, run_insn _ s, ?_, fun hop q => ?_⟩
  · cases hd : (shapeOf i).dest with
    | none => exact ⟨.a, fun q _ => run_reg_of_ne_dest _ s (by simp [hd])⟩
    | some r => exact ⟨r, fun q hq => run_reg_of_ne_dest _ s (by simp [hd, hq])⟩
  · exact run_reg_of_ne_dest _ s (by simp [dest_eq_none_of_opcode hop])

/-! ## The latch `INSN` -/

section

variable (s : State) (v : Byte)

theorem value_latch (x : Operand) : x.value (s.latch v) = x.value s := by
  cases x <;> simp [Operand.value]

theorem setReg_latch (r : Reg) (x : Byte) : (s.latch v).setReg r x = (s.setReg r x).latch v := by
  cases r <;> rfl
theorem setF_latch (x : Byte) : (s.latch v).setF x = (s.setF x).latch v := rfl
theorem setSp_latch (w : Addr) : (s.latch v).setSp w = (s.setSp w).latch v := rfl
theorem setIp_latch (w : Addr) : (s.latch v).setIp w = (s.setIp w).latch v := rfl
theorem memWrite_latch (a : Addr) (x : Byte) : (s.latch v).memWrite a x = (s.memWrite a x).latch v := rfl

/-- No shape reads `INSN`. -/
theorem run_latch (sh : Shape) : sh.run (s.latch v) = (sh.run s).latch v := by
  cases sh with
  | jump n w => simp only [run_jump]; rfl
  | _ => simp [value_latch, setReg_latch, setF_latch, setSp_latch, setIp_latch, memWrite_latch]

/-- A fetch overwrites the latch and reads the rest. -/
theorem fetchInstr_latch : fetchInstr (s.latch v) = fetchInstr s := rfl

end

/-- Settles O28. A fetch overwrites the latch, and no shape reads it. -/
theorem insnIsLatchedAndNeverRead : Obligations.InsnIsLatchedAndNeverRead := by
  unfold Obligations.InsnIsLatchedAndNeverRead
  refine ⟨fun s hr => ?_, fun s v hr => ?_, fun i s v => ?_, fun v s => rfl⟩
  · obtain ⟨-, h⟩ | ⟨i, -, h⟩ := step_spec hr
    · exact ⟨_, h, rfl⟩
    · exact ⟨_, h, by simp⟩
  · have hr' : (s.latch v).runState = .running := hr
    cases hf : fetchInstr s with
    | instr i s' => rw [step_of_instr hr hf, step_of_instr hr' (fetchInstr_latch s v ▸ hf)]
    | illegal op =>
      rw [step_of_illegal hr hf, step_of_illegal hr' (fetchInstr_latch s v ▸ hf)]
      rfl
  · exact ⟨_, exec_eq i s, by rw [exec_eq, run_latch]⟩

/-! ## Run states -/

/-- Settles O27: no shape writes `FAULT`, and the exception is taken at an illegal byte only. -/
theorem faultBitIsSticky : Obligations.FaultBitIsSticky := by
  unfold Obligations.FaultBitIsSticky
  have step_faulted (s : State) (h : s.fault = true) : step s = .next s :=
    step_of_not_running (by simp [(State.runState_eq_faulted s).2 h])
  refine ⟨rfl, fun v s => rfl, step_faulted, fun s => ?_⟩
  by_cases hr : s.runState = .running
  · obtain ⟨hb, h⟩ | ⟨i, hi, h⟩ := step_spec hr
    · exact ⟨_, h, by simp [hr, hb]⟩
    · have hlt := opcodeOf_lt i
      have hb : ¬ 0x93 ≤ (s.memRead s.ip).toNat := by omega
      exact ⟨_, h, by simp [hb]⟩
  · exact ⟨s, step_of_not_running hr, by simp [hr]⟩

/-- When a shape sets the Halt bit of an `F` that had it clear (R36). -/
def Shape.Halts : Shape → State → Prop
  | .brk, _ => True
  | .toF r, s => (s.reg r).getLsbD 3 = true
  | .popF, s => (s.memRead (s.sp + 1)).getLsbD 3 = true
  | _, _ => False

theorem run_halts_iff (sh : Shape) {s : State} (h : s.f.getLsbD 3 = false) :
    (sh.run s).f.getLsbD 3 = true ↔ sh.Halts s := by
  cases sh <;> simp [Shape.Halts, getLsbD_setHalt, getLsbD_setZCG, getLsbD_setZ, h, -BitVec.getLsbD_eq_getElem]

/-- The instructions whose shape halts, by their opcodes (R36). -/
theorem halts_iff_opcode (i : Instr) (s : State) : (shapeOf i).Halts s ↔
    opcodeOf i = 0x01 ∨ (opcodeOf i = 0x77 ∧ s.a.getLsbD 3 = true) ∨ (opcodeOf i = 0x78 ∧ s.b.getLsbD 3 = true) ∨
    (opcodeOf i = 0x79 ∧ s.c.getLsbD 3 = true) ∨ (opcodeOf i = 0x7A ∧ s.d.getLsbD 3 = true) ∨
    (opcodeOf i = 0x8B ∧ (s.memRead (s.sp + 1)).getLsbD 3 = true) := by
  have hrange := opcodeOf_mem_opcodes i
  cases hs : shapeOf i with
  | alu o r x => have := opcodeOf_of_alu hs; simp only [Shape.Halts, false_iff]; omega
  | load r x => have := opcodeOf_of_load hs; simp only [Shape.Halts, false_iff]; omega
  | push x => have := opcodeOf_of_push hs; simp only [Shape.Halts, false_iff]; omega
  | brk => simp only [hs, Shape.opcodes] at hrange; simp only [Shape.Halts, true_iff]; omega
  | toF r =>
    cases r <;>
    · simp only [hs, Shape.opcodes] at hrange
      have hop := le_antisymm hrange.2 hrange.1
      simp [Shape.Halts, hop]
  | popF =>
    simp only [hs, Shape.opcodes] at hrange
    have hop := le_antisymm hrange.2 hrange.1
    simp [Shape.Halts, hop]
  | _ => simp only [hs, Shape.opcodes] at hrange; simp only [Shape.Halts, false_iff]; omega

/-- Settles O26. A shape keeps `FAULT`, and sets Halt exactly when it is one of those that R36 lists. -/
theorem runStates : Obligations.RunStates := by
  unfold Obligations.RunStates
  refine ⟨fun s => ⟨s.runState_eq_faulted, s.runState_eq_halted, s.runState_eq_running⟩, rfl,
    applyReset_runState, fun s hr => ⟨step_of_not_running hr, ?_⟩, fun s hr => ?_⟩
  · cases h : s.runState with
    | running => exact absurd h hr
    | halted | faulted => simp [transactions, h]
  · obtain ⟨hfault, hhalt⟩ := s.runState_eq_running.1 hr
    obtain ⟨hb, h⟩ | ⟨i, hi, h⟩ := step_spec hr
    · refine ⟨_, h, ?_⟩
      simp only [← BitVec.toNat_inj, BitVec.toNat_ofNat, raiseIllegalOpcode_runState]
      exact ⟨nofun, by omega⟩
    · refine ⟨_, h, ?_⟩
      have hstop := (run_halts_iff (shapeOf i) (s := fetched s i.length) hhalt).trans (halts_iff_opcode i _)
      simp only [← BitVec.toNat_inj, BitVec.toNat_ofNat, ← hi, State.runState_eq_halted, run_fault, fetched_fault,
        hfault]
      simpa using hstop

/-! ## Runs -/

theorem stepMany_of_not_running {s : State} (h : s.runState ≠ .running) (n : Nat) : stepMany n s = .next s := by
  induction n with
  | zero => rfl
  | succ n ih => rw [stepMany_succ n (step_of_not_running h), ih]

/-- Every step request answers a next state. -/
theorem step_total (s : State) : ∃ t, step s = .next t := by
  by_cases hr : s.runState = .running
  · obtain ⟨-, h⟩ | ⟨i, -, h⟩ := step_spec hr <;> exact ⟨_, h⟩
  · exact ⟨s, step_of_not_running hr⟩

/-- Step requests after a run continue from where it ended. -/
theorem stepMany_add {m : Nat} {s t : State} (h : stepMany m s = .next t) (n : Nat) :
    stepMany (m + n) s = stepMany n t := by
  induction m generalizing s with
  | zero =>
    obtain rfl : s = t := Host.Outcome.next.inj h
    rw [Nat.zero_add]
  | succ m ih =>
    obtain ⟨u, hu⟩ := step_total s
    rw [stepMany_succ m hu] at h
    rw [Nat.add_right_comm, stepMany_succ (m + n) hu, ih h]

/-- Settles O47: the further requests start in the stopped state, which no step leaves. -/
theorem stoppedCoreStaysAsItIs : Obligations.StoppedCoreStaysAsItIs := by
  unfold Obligations.StoppedCoreStaysAsItIs
  exact fun m n s t h ht => (stepMany_add h n).trans (stepMany_of_not_running ht n)

/-! ## A byte through `F` -/

theorem opcodeMap_toF {op : Byte} {r : Reg}
    (h : (op, r) ∈ ([(0x77#8, .a), (0x78#8, .b), (0x79#8, .c), (0x7A#8, .d)] : List (Byte × Reg))) :
    ∃ i, opcodeMap op = some (.f0 i) ∧ shapeOf i = .toF r := by
  simp only [List.mem_cons, Prod.mk.injEq, List.not_mem_nil, or_false] at h
  obtain ⟨rfl, rfl⟩ | ⟨rfl, rfl⟩ | ⟨rfl, rfl⟩ | ⟨rfl, rfl⟩ := h <;> exact ⟨_, rfl, rfl⟩

theorem opcodeMap_fromF {op : Byte} {q : Reg}
    (h : (op, q) ∈ ([(0x7B#8, .a), (0x7C#8, .b), (0x7D#8, .c), (0x7E#8, .d)] : List (Byte × Reg))) :
    ∃ i, opcodeMap op = some (.f0 i) ∧ shapeOf i = .fromF q := by
  simp only [List.mem_cons, Prod.mk.injEq, List.not_mem_nil, or_false] at h
  obtain ⟨rfl, rfl⟩ | ⟨rfl, rfl⟩ | ⟨rfl, rfl⟩ | ⟨rfl, rfl⟩ := h <;> exact ⟨_, rfl, rfl⟩

/-- Settles O44. The first step ends with `F` equal to register `r`; bit 3 of it decides whether the second step runs. -/
theorem flagsByteRoundTrip : Obligations.FlagsByteRoundTrip := by
  unfold Obligations.FlagsByteRoundTrip
  intro op op' r q hop hop' s hr hbytes
  obtain ⟨i, hi, hsi⟩ := opcodeMap_toF hop
  obtain ⟨j, hj, hsj⟩ := opcodeMap_fromF hop'
  obtain ⟨hb, hb'⟩ : s.memRead s.ip = op ∧ s.memRead (s.ip + 1) = op' := by simpa [State.bytesAt] using hbytes
  obtain ⟨hfault, -⟩ := s.runState_eq_running.1 hr
  have hfirst : step s = .next ((fetched s 1).setF (s.reg r)) := by
    rw [step_of_one_byte hr (hb ▸ hi), hsi, run_toF, fetched_reg]
  by_cases hbit : (s.reg r).getLsbD 3 = true
  · have hhalted : ((fetched s 1).setF (s.reg r)).runState = .halted :=
      (State.runState_eq_halted _).2 ⟨hfault, hbit⟩
    refine ⟨(fetched s 1).setF (s.reg r), ?_, rfl, ?_⟩
    · rw [stepMany_succ 1 hfirst, stepMany_of_not_running (by simp [hhalted])]
    · simp only [hbit, if_true, hhalted, State.setF_reg, fetched_reg, and_self]
  · have hrun : ((fetched s 1).setF (s.reg r)).runState = .running :=
      (State.runState_eq_running _).2 ⟨hfault, by simpa using hbit⟩
    have hsecond := step_of_one_byte (i := j) hrun (hb'.symm ▸ hj)
    refine ⟨_, (stepMany_succ 1 hfirst).trans (stepMany_succ 0 hsecond), ?_⟩
    simp [hsj, hbit, -BitVec.getLsbD_eq_getElem]

end Sys2Proof.Proofs
end

section
/-! PROOFS. The flags: who writes which bit from what, the reserved bits, and what Carry means (R28 to R32). -/

namespace Sys2Proof.Proofs

open Sys2Proof.Machine Sys2Proof.Claims

/-! ## The table of flag effects -/

/-- Whether a shape leaves `F` alone (R32). -/
def Shape.keepsF : Shape → Bool
  | .brk | .alu _ _ _ | .unary _ _ | .toF _ | .popF => false
  | _ => true

theorem run_f_of_keepsF {sh : Shape} (h : sh.keepsF = true) (s : State) : (sh.run s).f = s.f := by
  cases sh with
  | brk | alu | unary | toF | popF => simp [Shape.keepsF] at h
  | _ => simp

/-- Opcode 00 and 5E up, but 77 to 7A and 8B: the instructions that leave `F` alone. -/
theorem opcodeOf_of_keepsF {i : Instr} (h : (shapeOf i).keepsF = true) :
    opcodeOf i = 0x00 ∨ (0x5E ≤ opcodeOf i ∧ ¬ (0x77 ≤ opcodeOf i ∧ opcodeOf i ≤ 0x7A) ∧ opcodeOf i ≠ 0x8B) := by
  have hrange := opcodeOf_mem_opcodes i
  cases hs : shapeOf i with
  | brk | alu | unary | toF | popF => simp [hs, Shape.keepsF] at h
  | load r x => have := opcodeOf_of_load hs; omega
  | push x => have := opcodeOf_of_push hs; omega
  | _ => simp only [hs, Shape.opcodes] at hrange; omega

/-- Settles O30, shape by shape. -/
theorem flagEffectsOfEveryInstruction : Obligations.FlagEffectsOfEveryInstruction := by
  unfold Obligations.FlagEffectsOfEveryInstruction
  intro i s
  refine ⟨_, exec_eq i s, ?_⟩
  have hrange := opcodeOf_mem_opcodes i
  by_cases hk : (shapeOf i).keepsF = true
  · have hop := opcodeOf_of_keepsF hk
    repeat rw [if_neg (by omega)]
    exact run_f_of_keepsF hk s
  · cases hs : shapeOf i with
    | alu o r x =>
      rw [if_pos (opcodeOf_of_alu hs)]
      refine ⟨o, r, x.value s, by rw [aluForm_eq, hs]; rfl,
        fun q hq => run_reg_of_ne_dest _ s (by simp [Shape.dest, hq]), fun k => ?_⟩
      simp only [run_alu, State.setF_f, State.setF_reg, State.setReg_reg, getLsbD_setZCG, if_true]
      obtain _ | _ | _ | k := k <;> simp
    | unary u r =>
      simp only [hs, Shape.opcodes] at hrange
      rw [if_neg (by omega), if_pos hrange]
      refine ⟨r, by rw [unaryDest_eq, hs]; rfl,
        fun q hq => run_reg_of_ne_dest _ s (by simp [Shape.dest, hq]), fun k => ?_⟩
      simp only [run_unary, State.setF_f, State.setF_reg, State.setReg_reg, getLsbD_setZ, if_true]
    | brk =>
      simp only [hs, Shape.opcodes] at hrange
      have hop := le_antisymm hrange.2 hrange.1
      rw [hop, if_neg (by omega), if_neg (by omega), if_pos rfl]
      intro k
      rw [run_brk, State.setF_f, getLsbD_setHalt]
      by_cases h3 : k = 3 <;> simp [h3]
    | toF r =>
      cases r <;>
      · simp only [hs, Shape.opcodes] at hrange
        have hop := le_antisymm hrange.2 hrange.1
        simp [hop]
    | popF =>
      simp only [hs, Shape.opcodes] at hrange
      have hop := le_antisymm hrange.2 hrange.1
      simp [hop]
    | _ => exact absurd (by rw [hs]; rfl) hk

/-! ## The reserved bits -/

/-- Only bits 7..4 of the mask can be set. -/
theorem getLsbD_reserved_of_lt (m : Byte) {k : Nat} (h : k < 4) : (m &&& 0xF0#8).getLsbD k = false := by
  have : (0xF0#8).getLsbD k = false := by interval_cases k <;> rfl
  rw [BitVec.getLsbD_and, this, Bool.and_false]

theorem flag_bit_lt (n : Flag) : n.bit < 4 := by cases n <;> decide

/-- `F` with the reserved bits of the mask inverted. -/
def flipReserved (m f : Byte) : Byte := f ^^^ (m &&& 0xF0#8)

section

variable (m f : Byte)

theorem getFlag_flipReserved (n : Flag) : getFlag (flipReserved m f) n = getFlag f n := by
  simp only [getFlag, flipReserved, BitVec.getLsbD_xor, getLsbD_reserved_of_lt m (flag_bit_lt n), Bool.xor_false]

theorem setFlag_flipReserved (n : Flag) (v : Bool) : setFlag (flipReserved m f) n v = flipReserved m (setFlag f n v) := by
  refine BitVec.eq_of_getLsbD_eq fun k _ => ?_
  simp only [flipReserved, getLsbD_setFlag, BitVec.getLsbD_xor]
  by_cases hk : k = n.bit
  · simp only [hk, if_true, getLsbD_reserved_of_lt m (flag_bit_lt n), Bool.xor_false]
  · simp only [hk, if_false]

theorem setZCG_flipReserved (old new : Byte) : setZCG (flipReserved m f) old new = flipReserved m (setZCG f old new) := by
  simp only [setZCG, setFlag_flipReserved]

theorem setZ_flipReserved (new : Byte) : setZ (flipReserved m f) new = flipReserved m (setZ f new) :=
  setFlag_flipReserved m f _ _

theorem setHalt_flipReserved : setHalt (flipReserved m f) = flipReserved m (setHalt f) :=
  setFlag_flipReserved m f _ _

end

section

variable (s : State) (f : Byte)

@[simp] theorem setF_setF (f' : Byte) : (s.setF f).setF f' = s.setF f' := rfl
theorem value_setF (x : Operand) : x.value (s.setF f) = x.value s := by
  cases x <;> simp [Operand.value]
theorem setReg_setF (r : Reg) (v : Byte) : (s.setF f).setReg r v = (s.setReg r v).setF f := by
  cases r <;> rfl
theorem setSp_setF (w : Addr) : (s.setF f).setSp w = (s.setSp w).setF f := rfl
theorem setIp_setF (w : Addr) : (s.setF f).setIp w = (s.setIp w).setF f := rfl
theorem memWrite_setF (a : Addr) (v : Byte) : (s.setF f).memWrite a v = (s.memWrite a v).setF f := rfl

end

/-- Whether a shape reads all eight bits of `F` (R28). -/
def Shape.readsWholeF : Shape → Bool
  | .fromF _ | .pushF => true
  | _ => false

/-- A shape that accesses no whole `F` carries a change of the reserved bits through. -/
theorem run_flipReserved {sh : Shape} (hr : sh.readsWholeF = false) (hw : sh.writesWholeF = false) (s : State)
    (m : Byte) : sh.run (s.setF (flipReserved m s.f)) = (sh.run s).setF (flipReserved m (sh.run s).f) := by
  cases sh with
  | fromF | pushF => simp [Shape.readsWholeF] at hr
  | toF | popF => simp [Shape.writesWholeF] at hw
  | jump n w =>
    simp only [run_jump, State.setF_flag, getFlag_flipReserved]
    rfl
  | _ => simp [value_setF, setReg_setF, setSp_setF, setIp_setF, memWrite_setF, getFlag_flipReserved,
      setZCG_flipReserved, setZ_flipReserved, setHalt_flipReserved, State.flag]

/-- A shape that writes the whole `F` forgets the old one. -/
theorem run_setF_of_writesWholeF {sh : Shape} (hw : sh.writesWholeF = true) (s : State) (f : Byte) :
    sh.run (s.setF f) = sh.run s := by
  cases sh with
  | toF | popF => simp [setSp_setF]
  | _ => simp [Shape.writesWholeF] at hw

/-- The whole-byte readers of `F` are opcodes 7B to 7E and 86. -/
theorem opcodeOf_of_readsWholeF {i : Instr} (h : (shapeOf i).readsWholeF = true) :
    (0x7B ≤ opcodeOf i ∧ opcodeOf i ≤ 0x7E) ∨ opcodeOf i = 0x86 := by
  have hrange := opcodeOf_mem_opcodes i
  cases hs : shapeOf i with
  | fromF | pushF => simp only [hs, Shape.opcodes] at hrange; omega
  | _ => simp [hs, Shape.readsWholeF] at h

/-- Settles O29: the flag updates and the flag tests do not touch bits 7..4, and a whole write overwrites them. -/
theorem reservedFlagBitsAreInert : Obligations.ReservedFlagBitsAreInert := by
  unfold Obligations.ReservedFlagBitsAreInert
  refine ⟨fun i s m hmove hpush hpop => ⟨_, exec_eq i s, ?_⟩, fun i s m hop => ?_,
    by decide, fun v s => by simp⟩
  · have hr : (shapeOf i).readsWholeF = false := by
      refine Bool.eq_false_iff.2 fun h => ?_
      have := opcodeOf_of_readsWholeF h
      omega
    have hw : (shapeOf i).writesWholeF = false := by
      refine Bool.eq_false_iff.2 fun h => ?_
      have := (writesWholeF_iff_opcode i).1 h
      omega
    exact (exec_eq i _).trans (congrArg _ (run_flipReserved hr hw s m))
  · rw [exec_eq, exec_eq, run_setF_of_writesWholeF ((writesWholeF_iff_opcode i).2 hop)]

/-! ## Carry -/

theorem bitwise_and_lt_iff (x v : Byte) : (x &&& v).toNat < x.toNat ↔ x &&& v ≠ x := by
  have hle : (x &&& v).toNat ≤ x.toNat := by
    rw [BitVec.toNat_and]
    exact Nat.and_le_left
  rw [← BitVec.toNat_ne_iff_ne]
  omega

theorem le_bitwise_or (x v : Byte) : x.toNat ≤ (x ||| v).toNat := by
  rw [BitVec.toNat_or]
  exact Nat.left_le_or

theorem shapeOf_of_aluForm {i : Instr} {s : State} {o : AluOp} {r : Reg} {v : Byte}
    (h : aluForm i s = some (o, r, v)) : ∃ x : Operand, shapeOf i = .alu o r x ∧ x.value s = v := by
  rw [aluForm_eq] at h
  cases hs : shapeOf i with
  | alu o' r' x =>
    simp only [hs, Shape.aluForm, Option.some.injEq, Prod.mk.injEq] at h
    obtain ⟨rfl, rfl, rfl⟩ := h
    exact ⟨x, rfl, rfl⟩
  | _ => simp [hs, Shape.aluForm] at h

/-- Settles O31: Carry compares the new value with the old one, and each operation says how they lie. -/
theorem carryAfterArithmeticLogic : Obligations.CarryAfterArithmeticLogic := by
  unfold Obligations.CarryAfterArithmeticLogic
  intro i s o r v hform
  obtain ⟨x, hs, rfl⟩ := shapeOf_of_aluForm hform
  refine ⟨_, exec_eq i s, ?_⟩
  have hcarry : ((shapeOf i).run s).f.getLsbD 1 = true ↔
      (aluResult o (s.reg r) (x.value s) (s.f.getLsbD 1)).toNat < (s.reg r).toNat := by
    rw [hs, run_alu, State.setF_f, getLsbD_setZCG]
    exact decide_eq_true_iff
  have hreg : ((shapeOf i).run s).reg r = aluResult o (s.reg r) (x.value s) (s.f.getLsbD 1) := by
    rw [hs, run_alu, State.setF_reg, State.setReg_reg, if_pos rfl]
    rfl
  have hold := (s.reg r).isLt
  have hv := (x.value s).isLt
  cases o with
  | adc =>
    have hnew := adcResult_toNat (s.reg r) (x.value s) (s.f.getLsbD 1)
    simp only [← Bool.not_eq_true, hcarry, hreg, aluResult, ← BitVec.toNat_inj]
    omega
  | sbb =>
    have hnew := sbbResult_toNat (s.reg r) (x.value s) (s.f.getLsbD 1)
    simp only [← Bool.not_eq_true, hcarry, hreg, aluResult, ← BitVec.toNat_inj]
    omega
  | and => simp only [hcarry, hreg, aluResult, bitwise_and_lt_iff]
  | or =>
    have := le_bitwise_or (s.reg r) (x.value s)
    simp only [← Bool.not_eq_true, hcarry, aluResult]
    omega

end Sys2Proof.Proofs
end

section
/-! PROOFS. Memory: what a shape reads and writes there, the byte transactions of a step, the stack primitives, and the
invariant that every step keeps (R53 to R68, R251, R288). -/

namespace Sys2Proof.Proofs

open Sys2Proof.Machine Sys2Proof.Claims

/-! ## What a shape reads from memory, and what it writes there -/

/-- The address an operand byte is read from, if it comes from memory (R83). -/
def Operand.reads : Operand → List Addr
  | .mem ea => [ea]
  | _ => []

/-- The data and stack addresses a shape reads, in order (R62, R63). -/
def Shape.reads : Shape → State → List Addr
  | .alu _ _ x, _ | .load _ x, _ | .store _ x, _ | .push x, _ => x.reads
  | .pop _, s | .popF, s | .popDiscard, s => [s.sp + 1]
  | .popIp, s => [s.sp + 1, s.sp + 2]
  | .deref hi lo, s => [pairAddress hi lo s]
  | _, _ => []

/-- The bytes a shape stores, in order, each with its address (R62, R63). -/
def Shape.writes : Shape → State → List (Addr × Byte)
  | .store ea x, s => [(ea, x.value s)]
  | .push x, s => [(s.sp, x.value s)]
  | .pushF, s => [(s.sp, s.f)]
  | .pushIp, s => [(s.sp, highByte s.ip), (s.sp - 1, lowByte s.ip)]
  | _, _ => []

/-- The transaction that stores a byte at its address. -/
def writeOf (p : Addr × Byte) : Transaction := .write p.1 p.2

/-- The data accesses of an instruction are the reads of its shape, then the writes. -/
theorem dataAccesses_eq (i : Instr) (s : State) :
    dataAccesses i s = ((shapeOf i).reads s).map (readOf s) ++ ((shapeOf i).writes s).map writeOf := by
  cases i <;> rfl

theorem ne_sub_one (w : Addr) : w ≠ w - 1#16 := by bv_omega

/-- No shape stores twice at one address. -/
theorem writes_nodup (sh : Shape) (s : State) : ((sh.writes s).map Prod.fst).Nodup := by
  cases sh with
  | pushIp => simpa [Shape.writes] using ne_sub_one s.sp
  | _ => simp [Shape.writes]

/-! ## Replaying transactions -/

/-- Reads leave memory alone. -/
theorem replay_reads_append (s u : State) (as : List Addr) (ts : List Transaction) :
    replay s (as.map (readOf u) ++ ts) = replay s ts := by
  induction as with
  | nil => rfl
  | cons a as ih => exact ih

theorem replay_writes_cons (s : State) (p : Addr × Byte) (ws : List (Addr × Byte)) :
    replay s ((p :: ws).map writeOf) = replay (s.memWrite p.1 p.2) (ws.map writeOf) := rfl

/-- The replayed memory depends on the memory before, and on nothing else of the state. -/
theorem replay_mem_congr {s u : State} (h : s.mem = u.mem) (ts : List Transaction) :
    (replay s ts).mem = (replay u ts).mem := by
  induction ts generalizing s u with
  | nil => exact h
  | cons t ts ih =>
    cases t with
    | read a v => exact ih h
    | write a v => exact ih (by simp [h])

theorem replay_wf {s : State} (h : s.mem.wf = true) (ts : List Transaction) : (replay s ts).mem.wf = true := by
  induction ts generalizing s with
  | nil => exact h
  | cons t ts ih =>
    cases t with
    | read a v => exact ih h
    | write a v => exact ih (State.wf_memWrite h a v)

/-- A byte that no replayed write names reads as before. -/
theorem replay_writes_memRead_of_notMem {x : Addr} {ws : List (Addr × Byte)} (h : x ∉ ws.map Prod.fst) (s : State) :
    (replay s (ws.map writeOf)).memRead x = s.memRead x := by
  induction ws generalizing s with
  | nil => rfl
  | cons p ws ih =>
    obtain ⟨hp, hws⟩ : x ≠ p.1 ∧ x ∉ ws.map Prod.fst := by simpa using h
    rw [replay_writes_cons, ih hws, State.memRead_memWrite, if_neg hp]

/-- Among writes to distinct addresses, each stored byte is the one read afterwards. -/
theorem replay_writes_memRead_of_mem {x : Addr} {v : Byte} {ws : List (Addr × Byte)}
    (hd : (ws.map Prod.fst).Nodup) (h : (x, v) ∈ ws) (s : State) :
    (replay s (ws.map writeOf)).memRead x = v := by
  induction ws generalizing s with
  | nil => simp at h
  | cons p ws ih =>
    obtain ⟨hp, hws⟩ := List.nodup_cons.1 hd
    rw [replay_writes_cons]
    obtain rfl | h := List.mem_cons.1 h
    · rw [replay_writes_memRead_of_notMem hp, State.memRead_memWrite, if_pos rfl]
    · exact ih hws h _

theorem memRead_congr {s u : State} (h : s.mem = u.mem) (x : Addr) : s.memRead x = u.memRead x := by
  rw [State.memRead, h, State.memRead]

/-- A shape changes memory by its writes, and in no other way. -/
theorem run_mem (sh : Shape) (s : State) : (sh.run s).mem = (replay s ((sh.writes s).map writeOf)).mem := by
  cases sh with
  | store | push | pushF | pushIp => simp [Shape.writes, writeOf, replay]
  | _ => simp [Shape.writes, replay]

/-- Settles O39: the store addresses of the statement are those of the shape's writes. -/
theorem memoryChangesOnlyWhereStored : Obligations.MemoryChangesOnlyWhereStored := by
  unfold Obligations.MemoryChangesOnlyWhereStored
  refine fun i s => ⟨_, exec_eq i s, fun x hx => (memRead_congr (run_mem _ s) x).trans ?_⟩
  have hstored : x ∉ ((shapeOf i).writes s).map Prod.fst := by cases i <;> exact hx
  exact replay_writes_memRead_of_notMem hstored s

/-! ## The transactions of a step -/

theorem streamReads_eq_map (s : State) (a : Addr) (n : Nat) :
    ∃ as : List Addr, as.length = n ∧ streamReads s a n = as.map (readOf s) := by
  induction n generalizing a with
  | zero => exact ⟨[], rfl, rfl⟩
  | succ n ih =>
    obtain ⟨as, hlen, has⟩ := ih (a + 1)
    exact ⟨a :: as, by simp [hlen], by rw [streamReads, has, List.map_cons]⟩

/-- A step that runs an instruction reads its bytes and its shape's data, then does its shape's writes (R68). -/
theorem transactions_of_fetched {s : State} {i : Instr} (hr : s.runState = .running)
    (hf : fetchInstr s = .instr i (fetched s i.length)) :
    ∃ as : List Addr, as.length = i.length + ((shapeOf i).reads (fetched s i.length)).length ∧
      transactions s = as.map (readOf s) ++ ((shapeOf i).writes (fetched s i.length)).map writeOf := by
  obtain ⟨as, hlen, has⟩ := streamReads_eq_map s s.ip i.length
  have hread : readOf (fetched s i.length) = readOf s := rfl
  refine ⟨as ++ (shapeOf i).reads (fetched s i.length), by simp [hlen], ?_⟩
  simp only [transactions, hr, hf, dataAccesses_eq, hread, has, List.map_append, List.append_assoc]

theorem transactions_of_illegal {s : State} {op : Byte} (hr : s.runState = .running)
    (hf : fetchInstr s = .illegal op) : transactions s = [readOf s s.ip] := by
  simp only [transactions, hr, hf]

theorem transactions_of_not_running {s : State} (h : s.runState ≠ .running) : transactions s = [] := by
  cases hs : s.runState with
  | running => exact absurd hs h
  | halted | faulted => simp only [transactions, hs]

/-- Every step reads from the memory before it, then writes at distinct addresses, and memory changes by the writes only. -/
theorem step_reads_then_writes (s : State) : ∃ (t : State) (as : List Addr) (ws : List (Addr × Byte)),
    step s = .next t ∧ transactions s = as.map (readOf s) ++ ws.map writeOf ∧ (ws.map Prod.fst).Nodup ∧
    t.mem = (replay s (ws.map writeOf)).mem := by
  by_cases hr : s.runState = .running
  · obtain ⟨-, hf⟩ | ⟨i, -, hf⟩ := fetchInstr_spec s
    · exact ⟨_, [s.ip], [], step_of_illegal hr hf, transactions_of_illegal hr hf, List.nodup_nil, rfl⟩
    · obtain ⟨as, -, htrans⟩ := transactions_of_fetched hr hf
      have hmem : (fetched s i.length).mem = s.mem := rfl
      exact ⟨_, as, _, step_of_fetched hr hf, htrans, writes_nodup _ _,
        (run_mem _ _).trans (replay_mem_congr hmem _)⟩
  · exact ⟨s, [], [], step_of_not_running hr, transactions_of_not_running hr, List.nodup_nil, rfl⟩

/-- Settles O41: the reads of a step are all made before its writes, and replaying them changes nothing. -/
theorem transactionsExplainMemory : Obligations.TransactionsExplainMemory := by
  unfold Obligations.TransactionsExplainMemory
  intro s
  obtain ⟨t, as, ws, hstep, htrans, -, hmem⟩ := step_reads_then_writes s
  refine ⟨t, hstep, fun x => ?_, fun x v hread => ?_⟩
  · rw [htrans, replay_reads_append]
    exact memRead_congr hmem x
  · simp only [htrans, List.mem_append, List.mem_map, readOf, writeOf, Transaction.read.injEq, reduceCtorEq,
      and_false, exists_false, or_false] at hread
    obtain ⟨a, -, rfl, rfl⟩ := hread
    rfl

/-- The counts of R68: the instruction's bytes, the shape's reads and the shape's writes. -/
theorem transactionTotal_eq (i : Instr) (s : State) :
    transactionTotal i = i.length + ((shapeOf i).reads s).length + ((shapeOf i).writes s).length := by
  cases i <;> rfl

/-- Settles O42: the fetch makes one read per byte of the instruction, and the shape makes the rest. -/
theorem transactionCounts : Obligations.TransactionCounts := by
  unfold Obligations.TransactionCounts
  intro s i rest hr hdecode
  obtain ⟨as, hlen, htrans⟩ := transactions_of_fetched hr (fetchInstr_of_decode hdecode)
  rw [htrans, transactionTotal_eq i (fetched s i.length), List.length_append, List.length_map, List.length_map, hlen]

/-- A byte that a step writes is there after the step (R64). -/
theorem memRead_of_write_mem_transactions {s t : State} {a : Addr} {v : Byte} (hstep : step s = .next t)
    (hwrite : Transaction.write a v ∈ transactions s) : t.memRead a = v := by
  obtain ⟨t', as, ws, hstep', htrans, hdistinct, hmem⟩ := step_reads_then_writes s
  obtain rfl : t = t' := Host.Outcome.next.inj (hstep.symm.trans hstep')
  have hws : (a, v) ∈ ws := by simpa [htrans, readOf, writeOf] using hwrite
  exact (memRead_congr hmem a).trans (replay_writes_memRead_of_mem hdistinct hws s)

/-- Settles O43: the stored byte is in memory, and the next step latches the byte at `IP` (R38). -/
theorem storeIsSeenByTheNextFetch : Obligations.StoreIsSeenByTheNextFetch := by
  unfold Obligations.StoreIsSeenByTheNextFetch
  intro s t v hstep hwrite hr
  obtain ⟨hlatched, -⟩ := insnIsLatchedAndNeverRead
  obtain ⟨u, hu, hinsn⟩ := hlatched t hr
  exact ⟨u, hu, hinsn.trans (memRead_of_write_mem_transactions hstep hwrite)⟩

/-! ## The invariant -/

theorem step_wf {s t : State} (hwf : s.mem.wf = true) (hstep : step s = .next t) : t.mem.wf = true := by
  obtain ⟨t', as, ws, hstep', -, -, hmem⟩ := step_reads_then_writes s
  obtain rfl : t = t' := Host.Outcome.next.inj (hstep.symm.trans hstep')
  rw [hmem]
  exact replay_wf hwf _

/-- The opcode of an instruction that halts is one of those that R36 lists. -/
theorem opcode_mem_of_halts {i : Instr} {s : State} {op : Byte} (hop : opcodeOf i = op.toNat)
    (h : (shapeOf i).Halts s) : op ∈ [0x01#8, 0x77#8, 0x78#8, 0x79#8, 0x7A#8, 0x8B#8] := by
  have hlist := (halts_iff_opcode i s).1 h
  simp only [List.mem_cons, List.not_mem_nil, or_false, ← BitVec.toNat_inj, BitVec.toNat_ofNat]
  omega

/-- Settles O50. Memory stays canonical by its writes. A stopped core stays as it is; the exception writes the two latches
that the second clause speaks of; an instruction keeps `FAULT` clear and sets Halt only if it is one that R36 lists. -/
theorem stepKeepsTheInvariant : Obligations.StepKeepsTheInvariant := by
  unfold Obligations.StepKeepsTheInvariant
  intro s t hinv hstep
  by_cases hr : s.runState = .running
  · obtain ⟨hwf, -, -⟩ := hinv
    obtain ⟨hfault, hhalt⟩ := s.runState_eq_running.1 hr
    refine ⟨step_wf hwf hstep, ?_⟩
    obtain ⟨hillegal, h⟩ | ⟨i, hop, h⟩ := step_spec hr
    · obtain rfl := Host.Outcome.next.inj (hstep.symm.trans h)
      have hrunning : (raiseIllegalOpcode (s.memRead s.ip) s).flag .halt = false := hhalt
      exact ⟨fun _ => ⟨rfl, hillegal, hrunning⟩, fun hset => absurd hset (by simp [hrunning])⟩
    · obtain rfl := Host.Outcome.next.inj (hstep.symm.trans h)
      refine ⟨fun hset => absurd hset (by simp [hfault]), fun hset => ?_⟩
      rw [run_insn, fetched_insn]
      exact opcode_mem_of_halts hop ((run_halts_iff (shapeOf i) (s := fetched s i.length) hhalt).1 hset)
  · obtain rfl := Host.Outcome.next.inj (hstep.symm.trans (step_of_not_running hr))
    exact hinv

/-! ## The stack primitives -/

section

variable (v : Byte) (w : Addr) (s : State)

@[simp] theorem push8_memRead (x : Addr) : (push8 v s).memRead x = if x = s.sp then v else s.memRead x :=
  State.memRead_memWrite s s.sp x v
@[simp] theorem push8_sp : (push8 v s).sp = s.sp - 1 := rfl

theorem push8_storeFrame : StoreFrame s (push8 v s) :=
  ⟨fun q => by simp [push8_eq], rfl, rfl, rfl, rfl⟩

theorem push16_memRead (x : Addr) : (push16 w s).memRead x =
    if x = s.sp then highByte w else if x = s.sp - 1 then lowByte w else s.memRead x := by
  by_cases hx : x = s.sp
  · simp [push16_eq, hx, ne_sub_one]
  · simp [push16_eq, hx]

@[simp] theorem push16_sp : (push16 w s).sp = s.sp - 2 := by rw [push16_eq, State.setSp_sp]

theorem push16_storeFrame : StoreFrame s (push16 w s) := by
  rw [push16_eq]
  exact ⟨fun q => by simp, rfl, rfl, rfl, rfl⟩

/-- The two bytes that `pop16` joins are those that `push16` stored (R60). -/
theorem pop16_push16 : (pop16 (push16 w s)).1 = w ∧ (pop16 (push16 w s)).2.sp = s.sp := by
  have hhi : s.sp - 2 + 2 = s.sp := by bv_omega
  have hlo : s.sp - 2 + 1 = s.sp - 1 := by bv_omega
  have hne : s.sp - 1 ≠ s.sp := (ne_sub_one s.sp).symm
  simp only [pop16_eq, push16_memRead, push16_sp, State.setSp_sp, hhi, hlo, hne, if_true, if_false,
    joinBytes_highByte_lowByte, and_self]

end

/-- Settles O35, by the one store of `push8` and the one read of `pop8`. -/
theorem byteStackPrimitives : Obligations.ByteStackPrimitives := by
  unfold Obligations.ByteStackPrimitives
  refine ⟨fun v s => ⟨push8_memRead v s, push8_storeFrame v s, rfl, ?_⟩, fun s => ⟨rfl, rfl⟩⟩
  simp

/-- Settles O36: both primitives are two byte primitives in a row. -/
theorem wordStackRoundTrip : Obligations.WordStackRoundTrip := by
  unfold Obligations.WordStackRoundTrip
  refine ⟨fun w s => ⟨push16_memRead w s, push16_storeFrame w s, push16_sp w s, rfl⟩,
    fun s => ⟨?_, ?_, rfl, rfl⟩, pop16_push16⟩
  · rw [pop16_eq, joinBytes_toNat]
  · rw [pop16_eq]
    rfl

/-- Settles O37: the address arithmetic wraps, and no shape writes `FAULT`. -/
theorem stackHasNoBounds : Obligations.StackHasNoBounds := by
  unfold Obligations.StackHasNoBounds
  refine ⟨fun v x s hsp => ?_, fun s hsp => ?_, fun v s hip => ?_,
    fun i s _ _ => ⟨_, exec_eq i s, run_fault _ s⟩⟩
  · simp [hsp]
  · simp [pop8_eq, hsp]
  · have hread : (push8 v s).memRead s.ip = v := by simp [hip]
    exact hread

end Sys2Proof.Proofs
end

section
/-! PROOFS. The decoder and the encoder (spec/30_encoding.md R80 to R87): the operand bytes of a row, the encoding that each
row stands for, the round trip, the illegal bytes, and the fetch that a step begins with. -/

namespace Sys2Proof.Proofs

open Sys2Proof.Machine Sys2Proof.Claims

/-! ## The operand bytes of a row -/

/-- The row makes the instruction of exactly these operand bytes (R80). -/
inductive Reads : Template → List Byte → Instr → Prop
  | f0 (i : Instr) : Reads (.f0 i) [] i
  | fi (mk : Byte → Instr) (v : Byte) : Reads (.fi mk) [v] (mk v)
  | fz (mk : Byte → Instr) (z : Byte) : Reads (.fz mk) [z] (mk z)
  | fa (mk : Addr → Instr) (ea : Addr) : Reads (.fa mk) (addrBytes ea) (mk ea)
  | fai (mk : Addr → Byte → Instr) (ea : Addr) (v : Byte) : Reads (.fai mk) (addrBytes ea ++ [v]) (mk ea v)

theorem addrBytes_joinBytes (hi lo : Byte) : addrBytes (joinBytes hi lo) = [lo, hi] := by
  simp [addrBytes]

theorem readOperands_of_reads {t : Template} {os : List Byte} {i : Instr} (h : Reads t os i) (op : Byte)
    (rest : List Byte) : readOperands op t (os ++ rest) = .instr i rest := by
  cases h <;> simp [readOperands, addrBytes]

/-- The bytes that are read are the operand bytes of the instruction made, and no bit of them is dropped (R87). -/
theorem reads_of_readOperands {op : Byte} {t : Template} {bs rest : List Byte} {i : Instr}
    (h : readOperands op t bs = .instr i rest) : ∃ os, Reads t os i ∧ bs = os ++ rest := by
  cases t with
  | f0 j =>
    obtain ⟨rfl, rfl⟩ := Decoded.instr.inj h
    exact ⟨[], .f0 _, rfl⟩
  | fi mk =>
    obtain _ | ⟨v, bs⟩ := bs
    · nomatch h
    · obtain ⟨rfl, rfl⟩ := Decoded.instr.inj h
      exact ⟨[v], .fi mk v, rfl⟩
  | fz mk =>
    obtain _ | ⟨z, bs⟩ := bs
    · nomatch h
    · obtain ⟨rfl, rfl⟩ := Decoded.instr.inj h
      exact ⟨[z], .fz mk z, rfl⟩
  | fa mk =>
    obtain _ | ⟨lo, _ | ⟨hi, bs⟩⟩ := bs
    · nomatch h
    · nomatch h
    · obtain ⟨rfl, rfl⟩ := Decoded.instr.inj h
      exact ⟨_, .fa mk (joinBytes hi lo), by simp [addrBytes_joinBytes]⟩
  | fai mk =>
    obtain _ | ⟨lo, _ | ⟨hi, _ | ⟨v, bs⟩⟩⟩ := bs
    · nomatch h
    · nomatch h
    · nomatch h
    · obtain ⟨rfl, rfl⟩ := Decoded.instr.inj h
      exact ⟨_, .fai mk (joinBytes hi lo) v, by simp [addrBytes_joinBytes]⟩

/-- Operand bytes are never an illegal opcode, whatever their values (R86). -/
theorem readOperands_ne_illegal (op op' : Byte) (t : Template) (bs : List Byte) :
    readOperands op t bs ≠ .rejected (.illegalOpcode op') := by
  unfold readOperands
  split <;> simp

/-- Three bytes are enough for every row. -/
theorem readOperands_of_three (op x y z : Byte) (t : Template) (bs : List Byte) :
    ∃ i rest, readOperands op t (x :: y :: z :: bs) = .instr i rest := by
  cases t <;> exact ⟨_, _, rfl⟩

/-! ## The decoder -/

theorem decode_of_row {op : Byte} {t : Template} (h : opcodeMap op = some t) (bs : List Byte) :
    decode (op :: bs) = readOperands op t bs := by
  simp only [decode, h]

theorem decode_eq_instr_iff {bs rest : List Byte} {i : Instr} : decode bs = .instr i rest ↔
    ∃ op t os, opcodeMap op = some t ∧ Reads t os i ∧ bs = op :: (os ++ rest) := by
  constructor
  · intro h
    obtain _ | ⟨op, bs⟩ := bs
    · nomatch h
    · cases hm : opcodeMap op with
      | none => simp [decode, hm] at h
      | some t =>
        obtain ⟨os, hos, rfl⟩ := reads_of_readOperands (decode_of_row hm bs ▸ h)
        exact ⟨op, t, os, hm, hos, rfl⟩
  · rintro ⟨op, t, os, hm, hos, rfl⟩
    rw [decode_of_row hm, readOperands_of_reads hos]

/-- The opcode byte alone decides what is illegal, and it is the byte that is reported (R86). -/
theorem decode_eq_illegal_iff (b op : Byte) (bs : List Byte) :
    decode (b :: bs) = .rejected (.illegalOpcode op) ↔ b = op ∧ 0x93 ≤ b.toNat := by
  rw [← opcodeMap_eq_none_iff]
  cases hm : opcodeMap b with
  | none => simp [decode, hm]
  | some t => simp [decode_of_row hm, readOperands_ne_illegal]

/-! ## The encoding of a row -/

/-- The row's instructions are encoded as the opcode and the operand bytes of the row's format (R80). -/
def Encodes (op : Byte) : Template → Prop
  | .f0 i => encode i = [op]
  | .fi mk => ∀ v, encode (mk v) = [op, v]
  | .fz mk => ∀ z, encode (mk z) = [op, z]
  | .fa mk => ∀ ea, encode (mk ea) = op :: addrBytes ea
  | .fai mk => ∀ ea v, encode (mk ea v) = op :: (addrBytes ea ++ [v])

theorem Encodes.encode_eq {op : Byte} {t : Template} {os : List Byte} {i : Instr} (h : Encodes op t)
    (hr : Reads t os i) : encode i = op :: os := by
  cases hr with
  | f0 => exact h
  | fi mk v => exact h v
  | fz mk z => exact h z
  | fa mk ea => exact h ea
  | fai mk ea v => exact h ea v

/-- The place of a row in the table is the opcode that its instructions are encoded with (R85). -/
theorem opcodeRows_encode : ∀ p ∈ opcodeRows.zipIdx, Encodes (BitVec.ofNat 8 p.2) p.1 := by
  simp only [opcodeRows, rowsNopHalt, rowsAdc, rowsSbb, rowsAnd, rowsOr, rowsNotShift, rowsLoadStoreMove, rowsJump,
    rowsStack, rowsDeref, List.cons_append, List.nil_append, List.zipIdx_cons, List.zipIdx_nil,
    List.forall_mem_cons, List.not_mem_nil, false_implies, implies_true, and_true, Encodes]
  and_intros <;> intros <;> rfl

theorem encodes_of_opcodeMap {op : Byte} {t : Template} (h : opcodeMap op = some t) : Encodes op t := by
  simpa using opcodeRows_encode (t, op.toNat) (List.mem_zipIdx_iff_getElem?.2 h)

/-- Every instruction, with any operand values, is made by the row of its own opcode (R85, R88). -/
theorem exists_row (i : Instr) : ∃ t os, opcodeMap ((encode i).headD 0#8) = some t ∧ Reads t os i := by
  cases i <;> exact ⟨_, _, rfl, by constructor⟩

/-! ## The round trip -/

theorem decode_encode (i : Instr) (rest : List Byte) : decode (encode i ++ rest) = .instr i rest := by
  obtain ⟨t, os, hm, hr⟩ := exists_row i
  have henc : encode i = (encode i).headD 0#8 :: os := (encodes_of_opcodeMap hm).encode_eq hr
  exact decode_eq_instr_iff.2 ⟨_, t, os, hm, hr, congrArg (· ++ rest) henc⟩

theorem eq_encode_append_of_decode {bs rest : List Byte} {i : Instr} (h : decode bs = .instr i rest) :
    bs = encode i ++ rest := by
  obtain ⟨op, t, os, hm, hr, rfl⟩ := decode_eq_instr_iff.1 h
  rw [(encodes_of_opcodeMap hm).encode_eq hr, List.cons_append]

/-- Settles O22: every instruction has a row, and a row's reading and its encoding have the same bytes. -/
theorem decodeAndEncodeAgree : Obligations.DecodeAndEncodeAgree :=
  ⟨fun i rest _ => decode_encode i rest, fun _ _ _ => eq_encode_append_of_decode⟩

/-- Settles O23: the map has the rows 0x00 to 0x92, and no row rejects its operand bytes. -/
theorem illegalOpcodesAreExactlyThose : Obligations.IllegalOpcodesAreExactlyThose := by
  unfold Obligations.IllegalOpcodesAreExactlyThose
  refine ⟨fun op bs => by simp [decode_eq_illegal_iff], fun op x y z bs hop => ?_⟩
  cases hm : opcodeMap op with
  | none =>
    have := (opcodeMap_eq_none_iff op).1 hm
    omega
  | some t =>
    rw [decode_of_row hm]
    exact readOperands_of_three op x y z t bs

/-! ## The fetch and the step in terms of the decoder -/

theorem continueOutput_eq_true_iff (s : State) :
    continueOutput s = true ↔ s.f.getLsbD 3 = false ∧ s.fault = false := by
  simp [continueOutput, State.flag, getFlag, Flag.bit]

/-- Settles O21: the fetch answers what the decoder reads from the bytes at `IP`. -/
theorem stepFetchesDecodesExecutes : Obligations.StepFetchesDecodesExecutes := by
  unfold Obligations.StepFetchesDecodesExecutes
  refine ⟨fun s => step_of_not_running, fun s op hr hd => ?_,
    fun s i rest hr hd => step_of_instr hr (fetchInstr_of_decode hd), continueOutput_eq_true_iff⟩
  obtain ⟨rfl, hb⟩ := (decode_eq_illegal_iff (s.memRead s.ip) op _).1 hd
  exact step_of_illegal_byte hr hb

/-- Settles O24: each word is the encoding of its instruction, and 93 is past the last row. -/
theorem wordsOfTheOpcodeTable : Obligations.WordsOfTheOpcodeTable :=
  ⟨decode_encode .adcAB [], decode_encode (.sbbBImm 0x01#8) [], decode_encode (.andAMem 0x0010#16) [],
    decode_encode .orDC [], decode_encode (.shlDImm 0x08#8) [], decode_encode (.stbMemImm 0x1234#16 0x5A#8) [],
    decode_encode (.jz 0x9000#16) [], decode_encode (.pushMem 0x10#8) [], decode_encode .derefCD [],
    (decode_eq_illegal_iff 0x93#8 0x93#8 []).2 ⟨rfl, by decide⟩⟩

/-- Settles O34: `fetch16` joins the bytes at `IP + 1` and `IP`. -/
theorem fetchPrimitives : Obligations.FetchPrimitives := by
  unfold Obligations.FetchPrimitives
  refine ⟨fetch8_eq, fun s => ⟨?_, ?_⟩, fun s => ⟨rfl, rfl⟩, fun s hbytes => ?_⟩
  · rw [fetch16_eq, joinBytes_toNat]
  · rw [fetch16_eq]
    rfl
  · obtain ⟨hlo, hhi⟩ : s.memRead s.ip = 0x34#8 ∧ s.memRead (s.ip + 1) = 0x12#8 := by
      simpa [State.bytesAt] using hbytes
    rw [fetch16_eq, hlo, hhi]
    rfl

end Sys2Proof.Proofs
end

section
/-! PROOFS. From the bytes of an instruction in memory to the step that runs it (R80, R84), for every instruction at once; then
`NOP` and `BRK` (R100, R101). -/

namespace Sys2Proof.Proofs

open Sys2Proof.Machine Sys2Proof.Claims

/-! ## The bytes of an instruction in memory -/

theorem bytesAt_add (s : State) (a : Addr) (m n : Nat) :
    s.bytesAt a (m + n) = s.bytesAt a m ++ s.bytesAt (a + BitVec.ofNat 16 m) n := by
  induction m generalizing a with
  | zero => simp [State.bytesAt]
  | succ m ih =>
    have hnext : a + 1 + BitVec.ofNat 16 m = a + BitVec.ofNat 16 (m + 1) := by
      rw [BitVec.add_assoc, Nat.add_comm m 1, BitVec.ofNat_add]
      rfl
    rw [Nat.add_right_comm, State.bytesAt, State.bytesAt, ih, hnext, List.cons_append]

theorem encode_length (i : Instr) : (encode i).length = i.length := by
  cases i <;> rfl

/-- The four bytes that the decoder looks at hold every instruction. -/
theorem instr_length_le (i : Instr) : i.length ≤ 4 := by
  unfold Instr.length
  cases i.format <;> decide

/-- The first byte of an encoding is the byte at its address. -/
theorem memRead_of_bytesAt_encode {s : State} {a : Addr} {i : Instr}
    (h : s.bytesAt a (encode i).length = encode i) : s.memRead a = (encode i).headD 0#8 := by
  obtain ⟨t, os, hm, hr⟩ := exists_row i
  have henc : encode i = (encode i).headD 0#8 :: os := (encodes_of_opcodeMap hm).encode_eq hr
  rw [henc] at h
  exact (List.cons.inj h).1

/-- A step from Running on the encoding of any instruction runs that instruction, with its bytes passed (R80, R84). -/
theorem runsAs_encode (i : Instr) : RunsAs i (encode i) := by
  intro s hr hbytes
  have hle : (encode i).length ≤ 4 := encode_length i ▸ instr_length_le i
  obtain ⟨rest, hdecode⟩ : ∃ rest, decode (s.bytesAt s.ip 4) = .instr i rest := by
    rw [← Nat.add_sub_cancel' hle, bytesAt_add, hbytes]
    exact ⟨_, decode_encode i _⟩
  rw [step_of_instr hr (fetchInstr_of_decode hdecode), fetched, memRead_of_bytesAt_encode hbytes, encode_length]

/-! ## `NOP` and `BRK` -/

/-- With the Halt bit set the core does not go on, whatever `FAULT` is (R69). -/
theorem continueOutput_of_halt {s : State} (h : s.f.getLsbD 3 = true) : continueOutput s = false := by
  rw [← Bool.not_eq_true, continueOutput_eq_true_iff, h]
  exact nofun

/-- Settles O1: the bytes are the encodings, `NOP` is the identity, and `BRK` sets the Halt bit of `F` and writes nothing
else. -/
theorem nopAndBrk : Obligations.NopAndBrk := by
  unfold Obligations.NopAndBrk
  refine ⟨runsAs_encode .nop, exec_eq .nop, runsAs_encode .brk, fun s => ?_⟩
  have hhalt : (s.setF (setHalt s.f)).f.getLsbD 3 = true := by
    rw [State.setF_f, getLsbD_setHalt, if_pos rfl]
  have hkept (k : Nat) (hk : k ≠ 3) : (s.setF (setHalt s.f)).f.getLsbD k = s.f.getLsbD k := by
    rw [State.setF_f, getLsbD_setHalt, if_neg hk]
  exact ⟨s.setF (setHalt s.f), exec_eq .brk s, hhalt, hkept, fun q => State.setF_reg s q _, rfl, rfl, ⟨rfl, rfl⟩,
    fun _ => rfl, continueOutput_of_halt hhalt, fun hfault => (State.runState_eq_halted _).2 ⟨hfault, hhalt⟩⟩

end Sys2Proof.Proofs
end

section
/-! PROOFS. The arithmetic-logic shape: its result, its flags and its frame (R29), for every operation; then the twenty
instructions of `ADC` (R102 to R121). -/

namespace Sys2Proof.Proofs

open Sys2Proof.Machine Sys2Proof.Claims

/-! ## The arithmetic-logic shape -/

section

variable (o : AluOp) (r : Reg) (x : Operand) (s : State)

theorem run_alu_reg_dest :
    ((Shape.alu o r x).run s).reg r = aluResult o (s.reg r) (x.value s) (s.f.getLsbD 1) := by
  rw [run_alu, State.setF_reg, State.setReg_reg, if_pos rfl]
  rfl

/-- The new `F` is `SetZCG` of the register before and after. -/
theorem run_alu_f :
    ((Shape.alu o r x).run s).f = setZCG s.f (s.reg r) (((Shape.alu o r x).run s).reg r) := by
  rw [run_alu_reg_dest]
  rfl

theorem run_alu_memRead (a : Addr) : ((Shape.alu o r x).run s).memRead a = s.memRead a := by
  rw [run_alu, State.setF_memRead, State.setReg_memRead]

/-- Whatever the operation and the operand, the flags are `SetZCG` and only `r` and `F` are written (R29). -/
theorem run_alu_flagsAndFrame : AluFlagsAndFrame r s ((Shape.alu o r x).run s) := by
  have hflag := getLsbD_setZCG s.f (s.reg r) (((Shape.alu o r x).run s).reg r)
  rw [← run_alu_f] at hflag
  have hkept (k : Nat) (hk : 3 ≤ k) : ((Shape.alu o r x).run s).f.getLsbD k = s.f.getLsbD k := by
    rw [hflag, if_neg (by omega), if_neg (by omega), if_neg (by omega)]
  have hregs (q : Reg) (hq : q ≠ r) : ((Shape.alu o r x).run s).reg q = s.reg q :=
    run_reg_of_ne_dest _ s (by simp [Shape.dest, hq])
  exact ⟨hflag 0, hflag 1, hflag 2, hkept, hregs, run_sp _ s, run_ip _ s, ⟨run_insn _ s, run_fault _ s⟩,
    run_alu_memRead o r x s⟩

end

/-- An instruction of the arithmetic-logic shape completes, with the result of its operation in the destination. -/
theorem exec_of_alu {i : Instr} {o : AluOp} {r : Reg} {x : Operand} (hs : shapeOf i = .alu o r x) (s : State) :
    ∃ t, exec i s = .next t ∧ t.reg r = aluResult o (s.reg r) (x.value s) (s.f.getLsbD 1) ∧
      AluFlagsAndFrame r s t :=
  ⟨_, hs ▸ exec_eq i s, run_alu_reg_dest o r x s, run_alu_flagsAndFrame o r x s⟩

/-! ## `ADC` -/

/-- An instruction of the `ADC` shape: from its bytes to the sum, the flags and the frame. -/
theorem adc_spec {i : Instr} {bs : List Byte} {r : Reg} {x : Operand} (henc : encode i = bs)
    (hs : shapeOf i = .alu .adc r x) :
    RunsAs i bs ∧ ∀ s : State, ∃ t, exec i s = .next t ∧
      (t.reg r).toNat = ((s.reg r).toNat + (x.value s).toNat + (s.f.getLsbD 1).toNat) % 256 ∧
      AluFlagsAndFrame r s t := by
  refine ⟨henc ▸ runsAs_encode i, fun s => ?_⟩
  obtain ⟨t, hexec, hreg, hframe⟩ := exec_of_alu hs s
  exact ⟨t, hexec, by rw [hreg, aluResult, adcResult_toNat], hframe⟩

/-- Settles O2: each row of the list is an `ADC` shape with register `q` as its operand. -/
theorem adcRegisterPairs : Obligations.AdcRegisterPairs := by
  unfold Obligations.AdcRegisterPairs
  intro i op r q hrow
  obtain ⟨henc, hs⟩ : encode i = [op] ∧ shapeOf i = .alu .adc r (.reg q) := by
    fin_cases hrow <;> exact ⟨rfl, rfl⟩
  exact adc_spec henc hs

/-- Settles O3: each row of the two lists is an `ADC` shape, with the immediate or the byte at the address as its operand. -/
theorem adcImmediatesAndMemory : Obligations.AdcImmediatesAndMemory := by
  unfold Obligations.AdcImmediatesAndMemory
  refine ⟨fun mk op r hrow v => ?_, fun mk op r hrow ea => ?_⟩
  · obtain ⟨henc, hs⟩ : encode (mk v) = [op, v] ∧ shapeOf (mk v) = .alu .adc r (.imm v) := by
      fin_cases hrow <;> exact ⟨rfl, rfl⟩
    exact adc_spec henc hs
  · obtain ⟨henc, hs⟩ : encode (mk ea) = op :: leBytes ea ∧ shapeOf (mk ea) = .alu .adc r (.mem ea) := by
      fin_cases hrow <;> exact ⟨rfl, rfl⟩
    exact adc_spec henc hs

end Sys2Proof.Proofs
end

section
/-! PROOFS. The twenty instructions of `SBB` (R122 to R141), from the lemmas about the arithmetic-logic shape. -/

namespace Sys2Proof.Proofs

open Sys2Proof.Machine Sys2Proof.Claims

/-- An instruction of the `SBB` shape: from its bytes to the difference over the integers (D20), the flags and the frame. -/
theorem sbb_spec {i : Instr} {bs : List Byte} {r : Reg} {x : Operand} (henc : encode i = bs)
    (hs : shapeOf i = .alu .sbb r x) :
    RunsAs i bs ∧ ∀ s : State, ∃ t, exec i s = .next t ∧
      ((t.reg r).toNat : Int) = ((s.reg r).toNat - (x.value s).toNat - (s.f.getLsbD 1).toNat : Int) % 256 ∧
      AluFlagsAndFrame r s t := by
  refine ⟨henc ▸ runsAs_encode i, fun s => ?_⟩
  obtain ⟨t, hexec, hreg, hframe⟩ := exec_of_alu hs s
  have hdiff : ((t.reg r).toNat : Int) =
      ((s.reg r).toNat - (x.value s).toNat - (s.f.getLsbD 1).toNat : Int) % 256 := by
    rw [hreg, aluResult, sbbResult_toNat]
  exact ⟨t, hexec, hdiff, hframe⟩

/-- Settles O4: each row of the list is an `SBB` shape with register `q` as its operand. -/
theorem sbbRegisterPairs : Obligations.SbbRegisterPairs := by
  unfold Obligations.SbbRegisterPairs
  intro i op r q hrow
  obtain ⟨henc, hs⟩ : encode i = [op] ∧ shapeOf i = .alu .sbb r (.reg q) := by
    fin_cases hrow <;> exact ⟨rfl, rfl⟩
  exact sbb_spec henc hs

/-- Settles O5: each row of the two lists is an `SBB` shape, with the immediate or the byte at the address as its operand. -/
theorem sbbImmediatesAndMemory : Obligations.SbbImmediatesAndMemory := by
  unfold Obligations.SbbImmediatesAndMemory
  refine ⟨fun mk op r hrow v => ?immediate, fun mk op r hrow ea => ?memory⟩
  case immediate =>
    obtain ⟨henc, hs⟩ : encode (mk v) = [op, v] ∧ shapeOf (mk v) = .alu .sbb r (.imm v) := by
      fin_cases hrow <;> exact ⟨rfl, rfl⟩
    exact sbb_spec henc hs
  case memory =>
    obtain ⟨henc, hs⟩ : encode (mk ea) = op :: leBytes ea ∧ shapeOf (mk ea) = .alu .sbb r (.mem ea) := by
      fin_cases hrow <;> exact ⟨rfl, rfl⟩
    exact sbb_spec henc hs

end Sys2Proof.Proofs
end

section
/-! PROOFS. The twenty instructions of `AND` (R142 to R161), from the lemmas about the arithmetic-logic shape. -/

namespace Sys2Proof.Proofs

open Sys2Proof.Machine Sys2Proof.Claims

/-- An instruction of the `AND` shape: from its bytes to the conjunction, the flags and the frame. The old Carry is not read. -/
theorem and_spec {i : Instr} {bs : List Byte} {r : Reg} {x : Operand} (henc : encode i = bs)
    (hs : shapeOf i = .alu .and r x) :
    RunsAs i bs ∧ ∀ s : State, ∃ t, exec i s = .next t ∧ t.reg r = s.reg r &&& x.value s ∧
      AluFlagsAndFrame r s t := by
  refine ⟨henc ▸ runsAs_encode i, fun s => ?_⟩
  obtain ⟨t, hexec, hreg, hframe⟩ := exec_of_alu hs s
  exact ⟨t, hexec, by rw [hreg, aluResult], hframe⟩

/-- Settles O6: each row of the list is an `AND` shape with register `q` as its operand. -/
theorem andRegisterPairs : Obligations.AndRegisterPairs := by
  unfold Obligations.AndRegisterPairs
  intro i op r q hrow
  obtain ⟨henc, hs⟩ : encode i = [op] ∧ shapeOf i = .alu .and r (.reg q) := by
    fin_cases hrow <;> exact ⟨rfl, rfl⟩
  exact and_spec henc hs

/-- Settles O7: each row of the two lists is an `AND` shape, with the immediate or the byte at the address as its operand. -/
theorem andImmediatesAndMemory : Obligations.AndImmediatesAndMemory := by
  unfold Obligations.AndImmediatesAndMemory
  refine ⟨fun mk op r hrow v => ?immediate, fun mk op r hrow ea => ?memory⟩
  case immediate =>
    obtain ⟨henc, hs⟩ : encode (mk v) = [op, v] ∧ shapeOf (mk v) = .alu .and r (.imm v) := by
      fin_cases hrow <;> exact ⟨rfl, rfl⟩
    exact and_spec henc hs
  case memory =>
    obtain ⟨henc, hs⟩ : encode (mk ea) = op :: leBytes ea ∧ shapeOf (mk ea) = .alu .and r (.mem ea) := by
      fin_cases hrow <;> exact ⟨rfl, rfl⟩
    exact and_spec henc hs

end Sys2Proof.Proofs
end

section
/-! PROOFS. The twenty instructions of `OR` (R162 to R181), from the lemmas about the arithmetic-logic shape. -/

namespace Sys2Proof.Proofs

open Sys2Proof.Machine Sys2Proof.Claims

/-- An instruction of the `OR` shape: from its bytes to the disjunction, the flags and the frame. The old Carry is not read. -/
theorem or_spec {i : Instr} {bs : List Byte} {r : Reg} {x : Operand} (henc : encode i = bs)
    (hs : shapeOf i = .alu .or r x) :
    RunsAs i bs ∧ ∀ s : State, ∃ t, exec i s = .next t ∧ t.reg r = s.reg r ||| x.value s ∧
      AluFlagsAndFrame r s t := by
  refine ⟨henc ▸ runsAs_encode i, fun s => ?_⟩
  obtain ⟨t, hexec, hreg, hframe⟩ := exec_of_alu hs s
  exact ⟨t, hexec, by rw [hreg, aluResult], hframe⟩

/-- Settles O8: each row of the list is an `OR` shape with register `q` as its operand. -/
theorem orRegisterPairs : Obligations.OrRegisterPairs := by
  unfold Obligations.OrRegisterPairs
  intro i op r q hrow
  obtain ⟨henc, hs⟩ : encode i = [op] ∧ shapeOf i = .alu .or r (.reg q) := by
    fin_cases hrow <;> exact ⟨rfl, rfl⟩
  exact or_spec henc hs

/-- Settles O9: each row of the two lists is an `OR` shape, with the immediate or the byte at the address as its operand. -/
theorem orImmediatesAndMemory : Obligations.OrImmediatesAndMemory := by
  unfold Obligations.OrImmediatesAndMemory
  refine ⟨fun mk op r hrow v => ?immediate, fun mk op r hrow ea => ?memory⟩
  case immediate =>
    obtain ⟨henc, hs⟩ : encode (mk v) = [op, v] ∧ shapeOf (mk v) = .alu .or r (.imm v) := by
      fin_cases hrow <;> exact ⟨rfl, rfl⟩
    exact or_spec henc hs
  case memory =>
    obtain ⟨henc, hs⟩ : encode (mk ea) = op :: leBytes ea ∧ shapeOf (mk ea) = .alu .or r (.mem ea) := by
      fin_cases hrow <;> exact ⟨rfl, rfl⟩
    exact or_spec henc hs

end Sys2Proof.Proofs
end

section
/-! PROOFS. The one-register shape: its result, its flags and its frame (R30), for every operation; then `NOT` (R182 to R185) and
the shifts (R186 to R193). -/

namespace Sys2Proof.Proofs

open Sys2Proof.Machine Sys2Proof.Claims

/-! ## The one-register shape -/

section

variable (u : UnaryOp) (r : Reg) (s : State)

theorem run_unary_reg_dest : ((Shape.unary u r).run s).reg r = u.result (s.reg r) := by
  rw [run_unary, State.setF_reg, State.setReg_reg, if_pos rfl]

/-- The new `F` is `SetZ` of the register after. -/
theorem run_unary_f : ((Shape.unary u r).run s).f = setZ s.f (((Shape.unary u r).run s).reg r) := by
  rw [run_unary_reg_dest, run_unary, State.setF_f]

theorem run_unary_memRead (a : Addr) : ((Shape.unary u r).run s).memRead a = s.memRead a := by
  rw [run_unary, State.setF_memRead, State.setReg_memRead]

/-- Whatever the operation, the flags are `SetZ` and only `r` and `F` are written (R30). -/
theorem run_unary_flagsAndFrame : UnaryFlagsAndFrame r s ((Shape.unary u r).run s) := by
  have hflag := getLsbD_setZ s.f (((Shape.unary u r).run s).reg r)
  rw [← run_unary_f] at hflag
  have hkept (k : Nat) (hk : 1 ≤ k) : ((Shape.unary u r).run s).f.getLsbD k = s.f.getLsbD k := by
    rw [hflag, if_neg (by omega)]
  have hregs (q : Reg) (hq : q ≠ r) : ((Shape.unary u r).run s).reg q = s.reg q :=
    run_reg_of_ne_dest _ s (by simp [Shape.dest, hq])
  exact ⟨hflag 0, hkept, hregs, run_sp _ s, run_ip _ s, ⟨run_insn _ s, run_fault _ s⟩, run_unary_memRead u r s⟩

end

/-- An instruction of the one-register shape: from its bytes to the value of its operation, the flags and the frame. -/
theorem unary_spec {i : Instr} {bs : List Byte} {u : UnaryOp} {r : Reg} {value : Byte → Nat} (henc : encode i = bs)
    (hs : shapeOf i = .unary u r) (hvalue : ∀ old, (u.result old).toNat = value old) :
    RunsAs i bs ∧ ∀ s : State, ∃ t, exec i s = .next t ∧ (t.reg r).toNat = value (s.reg r) ∧
      UnaryFlagsAndFrame r s t := by
  refine ⟨henc ▸ runsAs_encode i, fun s => ⟨_, hs ▸ exec_eq i s, ?_, run_unary_flagsAndFrame u r s⟩⟩
  rw [run_unary_reg_dest, hvalue]

/-! ## `NOT` and the shifts -/

theorem notResult_toNat (x : Byte) : (notResult x).toNat = 255 - x.toNat := by
  rw [notResult_eq, BitVec.toNat_not]

/-- Settles O10: each row of the list is a `NOT` of its register. -/
theorem notInPlace : Obligations.NotInPlace := by
  unfold Obligations.NotInPlace
  intro i op r hrow
  obtain ⟨henc, hs⟩ : encode i = [op] ∧ shapeOf i = .unary .not r := by
    fin_cases hrow <;> exact ⟨rfl, rfl⟩
  exact unary_spec henc hs notResult_toNat

/-- Settles O11: each row of the two lists is a shift of its register by the operand byte, with the count not reduced (D9). -/
theorem shiftsByImmediate : Obligations.ShiftsByImmediate := by
  unfold Obligations.ShiftsByImmediate
  refine ⟨fun mk op r hrow n => ?left, fun mk op r hrow n => ?right⟩
  case left =>
    obtain ⟨henc, hs⟩ : encode (mk n) = [op, n] ∧ shapeOf (mk n) = .unary (.shl n) r := by
      fin_cases hrow <;> exact ⟨rfl, rfl⟩
    exact unary_spec henc hs fun old => shlResult_toNat old n
  case right =>
    obtain ⟨henc, hs⟩ : encode (mk n) = [op, n] ∧ shapeOf (mk n) = .unary (.shr n) r := by
      fin_cases hrow <;> exact ⟨rfl, rfl⟩
    exact unary_spec henc hs fun old => shrResult_toNat old n

end Sys2Proof.Proofs
end

section
/-! PROOFS. A write to one register and a store of one byte: what each changes and its whole frame; then `LDB` (R194 to R201),
`STB` (R202 to R206) and `MVB` (R207 to R226). -/

namespace Sys2Proof.Proofs

open Sys2Proof.Machine Sys2Proof.Claims

/-! ## The two updates and their frames -/

section

variable (s : State) (r : Reg) (v : Byte) (ea : Addr)

theorem setReg_reg_self : (s.setReg r v).reg r = v := by
  rw [State.setReg_reg, if_pos rfl]

/-- A register write leaves `F`, the pointers, the latches, memory and the other registers alone (R20). -/
theorem setReg_registerFrame : RegisterFrame r s (s.setReg r v) := by
  have hregs (q : Reg) (hq : q ≠ r) : (s.setReg r v).reg q = s.reg q := by
    rw [State.setReg_reg, if_neg hq]
  exact ⟨hregs, s.setReg_f r v, s.setReg_sp r v, s.setReg_ip r v, ⟨s.setReg_insn r v, s.setReg_fault r v⟩,
    s.setReg_memRead r v⟩

/-- A store changes the byte at its address and no other byte (R53). -/
theorem memWrite_storedOnly : StoredOnly ea v s (s.memWrite ea v) :=
  fun a => s.memRead_memWrite ea a v

/-- A store writes nothing but memory (R53). -/
theorem memWrite_storeFrame : StoreFrame s (s.memWrite ea v) :=
  ⟨fun q => s.memWrite_reg q v ea, s.memWrite_f v ea, s.memWrite_ip v ea, s.memWrite_insn v ea, s.memWrite_fault v ea⟩

end

/-! ## The load, store and flag-move shapes -/

/-- An instruction of the load shape: from its bytes to the operand byte in the register, and the frame. -/
theorem load_spec {i : Instr} {bs : List Byte} {r : Reg} {x : Operand} (henc : encode i = bs)
    (hs : shapeOf i = .load r x) :
    RunsAs i bs ∧ ∀ s : State, ∃ t, exec i s = .next t ∧ t.reg r = x.value s ∧ RegisterFrame r s t := by
  refine ⟨henc ▸ runsAs_encode i, fun s => ?_⟩
  have hexec : exec i s = .next (s.setReg r (x.value s)) := by rw [exec_eq, hs, run_load]
  exact ⟨_, hexec, setReg_reg_self s r _, setReg_registerFrame s r _⟩

/-- An instruction of the store shape: from its bytes to the operand byte at the address, and the frame. -/
theorem store_spec {i : Instr} {bs : List Byte} {ea : Addr} {x : Operand} (henc : encode i = bs)
    (hs : shapeOf i = .store ea x) :
    RunsAs i bs ∧ ∀ s : State, ∃ t, exec i s = .next t ∧ StoredOnly ea (x.value s) s t ∧ StoreFrame s t ∧
      t.sp = s.sp := by
  refine ⟨henc ▸ runsAs_encode i, fun s => ?_⟩
  have hexec : exec i s = .next (s.memWrite ea (x.value s)) := by rw [exec_eq, hs, run_store]
  exact ⟨_, hexec, memWrite_storedOnly s _ ea, memWrite_storeFrame s _ ea, s.memWrite_sp _ ea⟩

/-- Writing the whole of `F` halts a core without a fault exactly when bit 3 of the byte is set (R23, R36). -/
theorem setF_runState_eq_halted_iff {s : State} (hfault : s.fault = false) (v : Byte) :
    (s.setF v).runState = .halted ↔ v.getLsbD 3 = true := by
  rw [State.runState_eq_halted, State.setF_f, State.setF_fault]
  exact and_iff_right hfault

/-- An instruction that moves a register into `F`: all eight bits, bit 3 decides the run state, and nothing else is written. -/
theorem toF_spec {i : Instr} {bs : List Byte} {r : Reg} (henc : encode i = bs) (hs : shapeOf i = .toF r) :
    RunsAs i bs ∧ ∀ s : State, ∃ t, exec i s = .next t ∧ t.f = s.reg r ∧ SameRegs s t ∧ t.sp = s.sp ∧ t.ip = s.ip ∧
      SameLatches s t ∧ SameMemory s t ∧ (s.fault = false → (t.runState = .halted ↔ (s.reg r).getLsbD 3 = true)) := by
  refine ⟨henc ▸ runsAs_encode i, fun s => ?_⟩
  have hexec : exec i s = .next (s.setF (s.reg r)) := by rw [exec_eq, hs, run_toF]
  exact ⟨_, hexec, s.setF_f _, fun q => s.setF_reg q _, s.setF_sp _, s.setF_ip _, ⟨s.setF_insn _, s.setF_fault _⟩,
    s.setF_memRead _, fun hfault => setF_runState_eq_halted_iff hfault _⟩

/-- An instruction that moves `F` into a register: all eight bits, of which a Running core has bit 3 clear, and the frame. -/
theorem fromF_spec {i : Instr} {bs : List Byte} {r : Reg} (henc : encode i = bs) (hs : shapeOf i = .fromF r) :
    RunsAs i bs ∧ ∀ s : State, ∃ t, exec i s = .next t ∧ t.reg r = s.f ∧ RegisterFrame r s t ∧
      (s.runState = .running → (t.reg r).getLsbD 3 = false) := by
  refine ⟨henc ▸ runsAs_encode i, fun s => ?_⟩
  have hexec : exec i s = .next (s.setReg r s.f) := by rw [exec_eq, hs, run_fromF]
  refine ⟨_, hexec, setReg_reg_self s r _, setReg_registerFrame s r _, fun hr => ?_⟩
  obtain ⟨-, hhalt⟩ := s.runState_eq_running.1 hr
  rw [setReg_reg_self, hhalt]

/-! ## `LDB`, `STB` and `MVB` -/

/-- Settles O12: each row of the two lists loads its register with the immediate or the byte at the address. -/
theorem loadsOfAByte : Obligations.LoadsOfAByte := by
  unfold Obligations.LoadsOfAByte
  refine ⟨fun mk op r hrow v => ?immediate, fun mk op r hrow ea => ?memory⟩
  case immediate =>
    obtain ⟨henc, hs⟩ : encode (mk v) = [op, v] ∧ shapeOf (mk v) = .load r (.imm v) := by
      fin_cases hrow <;> exact ⟨rfl, rfl⟩
    exact load_spec henc hs
  case memory =>
    obtain ⟨henc, hs⟩ : encode (mk ea) = op :: leBytes ea ∧ shapeOf (mk ea) = .load r (.mem ea) := by
      fin_cases hrow <;> exact ⟨rfl, rfl⟩
    exact load_spec henc hs

/-- Settles O13: each row of the list stores its register, and `STB_MEM_IMM` its last byte (D7). -/
theorem storesOfAByte : Obligations.StoresOfAByte := by
  unfold Obligations.StoresOfAByte
  refine ⟨fun mk op r hrow ea => ?register, fun ea v => ?immediate⟩
  case register =>
    obtain ⟨henc, hs⟩ : encode (mk ea) = op :: leBytes ea ∧ shapeOf (mk ea) = .store ea (.reg r) := by
      fin_cases hrow <;> exact ⟨rfl, rfl⟩
    exact store_spec henc hs
  case immediate => exact store_spec (x := .imm v) rfl rfl

/-- Settles O14: each row of the list is a load of register `r` with register `q`. -/
theorem movesBetweenRegisters : Obligations.MovesBetweenRegisters := by
  unfold Obligations.MovesBetweenRegisters
  intro i op r q hrow
  obtain ⟨henc, hs⟩ : encode i = [op] ∧ shapeOf i = .load r (.reg q) := by
    fin_cases hrow <;> exact ⟨rfl, rfl⟩
  exact load_spec henc hs

/-- Settles O15: each row of the two lists is a whole-byte move, into `F` or out of it. -/
theorem movesToAndFromFlags : Obligations.MovesToAndFromFlags := by
  unfold Obligations.MovesToAndFromFlags
  refine ⟨fun i op r hrow => ?intoF, fun i op r hrow => ?outOfF⟩
  case intoF =>
    obtain ⟨henc, hs⟩ : encode i = [op] ∧ shapeOf i = .toF r := by
      fin_cases hrow <;> exact ⟨rfl, rfl⟩
    exact toF_spec henc hs
  case outOfF =>
    obtain ⟨henc, hs⟩ : encode i = [op] ∧ shapeOf i = .fromF r := by
      fin_cases hrow <;> exact ⟨rfl, rfl⟩
    exact fromF_spec henc hs

end Sys2Proof.Proofs
end

section
/-! PROOFS. The conditional jumps (R227 to R229): the jump shape with its frame, and the loop of a jump to itself (U12). -/

namespace Sys2Proof.Proofs

open Sys2Proof.Machine Sys2Proof.Claims

/-! ## The jump shape -/

/-- A jump writes `IP` and nothing else, the target when its flag is set. -/
theorem exec_of_jump {i : Instr} {n : Flag} {w : Addr} (hs : shapeOf i = .jump n w) (s : State) :
    exec i s = .next (s.setIp (if s.f.getLsbD n.bit = true then w else s.ip)) := by
  rw [exec_eq, hs, run_jump]
  rfl

/-- An instruction of the jump shape: from its bytes to `IP` as the flag decides, and the frame. -/
theorem jump_spec {i : Instr} {bs : List Byte} {n : Flag} {w : Addr} (henc : encode i = bs)
    (hs : shapeOf i = .jump n w) :
    RunsAs i bs ∧ ∀ s : State, ∃ t, exec i s = .next t ∧ t.ip = (if s.f.getLsbD n.bit = true then w else s.ip) ∧
      SameRegs s t ∧ t.f = s.f ∧ t.sp = s.sp ∧ SameLatches s t ∧ SameMemory s t :=
  ⟨henc ▸ runsAs_encode i, fun s => ⟨_, exec_of_jump hs s, s.setIp_ip _, fun q => s.setIp_reg q _, s.setIp_f _,
    s.setIp_sp _, ⟨s.setIp_insn _, s.setIp_fault _⟩, s.setIp_memRead _⟩⟩

/-- Settles O16: each row of the list is a jump on the flag whose bit the row names. -/
theorem conditionalJumps : Obligations.ConditionalJumps := by
  unfold Obligations.ConditionalJumps
  intro mk op k hrow w
  obtain ⟨n, rfl, henc, hs⟩ : ∃ n : Flag, n.bit = k ∧ encode (mk w) = op :: leBytes w ∧ shapeOf (mk w) = .jump n w := by
    fin_cases hrow <;> exact ⟨_, rfl, rfl, rfl⟩
  exact jump_spec henc hs

/-! ## A taken jump to its own address -/

/-- A step on a jump to its own address, with the flag set, brings `IP` back: only the latch is written. -/
theorem step_of_taken_jump_to_itself {s : State} {i : Instr} {op : Byte} {n : Flag} (henc : encode i = op :: leBytes s.ip)
    (hs : shapeOf i = .jump n s.ip) (hr : s.runState = .running) (hflag : s.f.getLsbD n.bit = true)
    (hbytes : s.bytesAt s.ip 3 = op :: leBytes s.ip) : step s = .next (s.latch op) := by
  have hruns : RunsAs i (op :: leBytes s.ip) := henc ▸ runsAs_encode i
  rw [hruns s hr hbytes, exec_of_jump hs, State.setIp_f, State.latch_f, if_pos hflag]
  rfl

/-- A run from a state that steps to itself stays there. -/
theorem stepMany_of_step_self {s : State} (h : step s = .next s) (n : Nat) : stepMany n s = .next s := by
  induction n with
  | zero => rfl
  | succ n ih => rw [stepMany_succ n h, ih]

/-- Settles O45. The first step writes the latch only, and no step reads the latch (R38), so the second leaves the state
as it is. -/
theorem takenJumpToItselfRunsForever : Obligations.TakenJumpToItselfRunsForever := by
  unfold Obligations.TakenJumpToItselfRunsForever
  intro op k hrow s m hr hflag hbytes
  obtain ⟨i, n, rfl, henc, hs⟩ : ∃ (i : Instr) (n : Flag), n.bit = k ∧ encode i = op :: leBytes s.ip ∧
      shapeOf i = .jump n s.ip := by
    fin_cases hrow
    exacts [⟨.jz s.ip, _, rfl, rfl, rfl⟩, ⟨.jg s.ip, _, rfl, rfl, rfl⟩, ⟨.jc s.ip, _, rfl, rfl, rfl⟩]
  have hfirst : step s = .next (s.latch op) := step_of_taken_jump_to_itself henc hs hr hflag hbytes
  have hagain : step (s.latch op) = .next (s.latch op) := by
    obtain ⟨-, step_latch, -⟩ := insnIsLatchedAndNeverRead
    rw [step_latch s op hr, hfirst]
  rw [stepMany_succ m hfirst, stepMany_of_step_self hagain]

end Sys2Proof.Proofs
end

section
/-! PROOFS. The stack instructions in terms of the stack primitives (R57 to R60): what a push and a pop do and their frames
(R230 to R244), and a push followed by its pop. -/

namespace Sys2Proof.Proofs

open Sys2Proof.Machine Sys2Proof.Claims

/-! ## Pushes of a byte -/

/-- An instruction that pushes an operand byte is `push8` of it. The byte is read before the store (R244). -/
theorem exec_of_push {i : Instr} {x : Operand} (hs : shapeOf i = .push x) (s : State) :
    exec i s = .next (push8 (x.value s) s) := by
  rw [exec_eq, hs, Shape.run]

/-- An instruction of the push shape: from its bytes to the operand byte at the old `SP`, and the frame. -/
theorem push_spec {i : Instr} {bs : List Byte} {x : Operand} (henc : encode i = bs) (hs : shapeOf i = .push x) :
    RunsAs i bs ∧ ∀ s : State, ∃ t, exec i s = .next t ∧ StoredOnly s.sp (x.value s) s t ∧ StoreFrame s t ∧
      t.sp = s.sp - 1 :=
  ⟨henc ▸ runsAs_encode i, fun s => ⟨_, exec_of_push hs s, push8_memRead _ s, push8_storeFrame _ s, push8_sp _ s⟩⟩

/-- Settles O17: each row of the list and the two operand forms are a `push8` of their operand, and `PUSH_F` is one of `F`,
of which a Running core has bit 3 clear. -/
theorem pushesOfAByte : Obligations.PushesOfAByte := by
  unfold Obligations.PushesOfAByte
  refine ⟨fun i op r hrow => ?register, runsAs_encode .pushF, fun s => ?flags, fun v => ?operand⟩
  case register =>
    obtain ⟨henc, hs⟩ : encode i = [op] ∧ shapeOf i = .push (.reg r) := by
      fin_cases hrow <;> exact ⟨rfl, rfl⟩
    exact push_spec henc hs
  case flags =>
    refine ⟨push8 s.f s, exec_eq .pushF s, push8_memRead s.f s, push8_storeFrame s.f s, push8_sp s.f s, fun hr => ?_⟩
    obtain ⟨-, hhalt⟩ := s.runState_eq_running.1 hr
    rw [push8_memRead, if_pos rfl, hhalt]
  case operand =>
    have haddr : BitVec.ofNat 16 v.toNat = zext16 v := BitVec.ofNat_toNat 16 v
    obtain ⟨himmRuns, himm⟩ := push_spec (i := .pushImm v) (x := .imm v) rfl rfl
    obtain ⟨hmemRuns, hmem⟩ := push_spec (i := .pushMem v) (x := .mem (zext16 v)) rfl rfl
    exact ⟨himmRuns, hmemRuns, fun s => ⟨himm s, haddr ▸ hmem s⟩⟩

/-! ## Pops of a byte -/

/-- An instruction that pops into a register writes it and `SP`, and nothing else. -/
theorem exec_of_pop {i : Instr} {r : Reg} (hs : shapeOf i = .pop r) (s : State) :
    exec i s = .next ((s.setSp (s.sp + 1)).setReg r (s.memRead (s.sp + 1))) := by
  rw [exec_eq, hs, run_pop]

/-- An instruction of the pop shape: from its bytes to the byte at the new `SP` in the register, and the frame. -/
theorem pop_spec {i : Instr} {bs : List Byte} {r : Reg} (henc : encode i = bs) (hs : shapeOf i = .pop r) :
    RunsAs i bs ∧ ∀ s : State, ∃ t, exec i s = .next t ∧ t.sp = s.sp + 1 ∧ t.reg r = s.memRead (s.sp + 1) ∧
      SameRegsBut r s t ∧ t.f = s.f ∧ t.ip = s.ip ∧ SameLatches s t ∧ SameMemory s t := by
  refine ⟨henc ▸ runsAs_encode i, fun s => ?_⟩
  obtain ⟨hregs, hf, hsp, hip, hlatches, hmem⟩ :=
    setReg_registerFrame (s.setSp (s.sp + 1)) r (s.memRead (s.sp + 1))
  exact ⟨_, exec_of_pop hs s, hsp, setReg_reg_self _ r _, fun q hq => (hregs q hq).trans (s.setSp_reg q _), hf, hip,
    hlatches, hmem⟩

/-- Settles O18: each row of the list pops into its register; `POP_F` ends with a write of the whole of `F`, and
`POP_DISCARD` moves `SP` only. -/
theorem popsOfAByte : Obligations.PopsOfAByte := by
  unfold Obligations.PopsOfAByte
  refine ⟨fun i op r hrow => ?register, runsAs_encode .popF, fun s => ?flags, runsAs_encode .popDiscard, fun s => ?discard⟩
  case register =>
    obtain ⟨henc, hs⟩ : encode i = [op] ∧ shapeOf i = .pop r := by
      fin_cases hrow <;> exact ⟨rfl, rfl⟩
    exact pop_spec henc hs
  case flags =>
    have hregs (q : Reg) : ((s.setSp (s.sp + 1)).setF (s.memRead (s.sp + 1))).reg q = s.reg q := by
      rw [State.setF_reg, State.setSp_reg]
    exact ⟨_, exec_eq .popF s, rfl, rfl, hregs, rfl, ⟨rfl, rfl⟩, fun _ => rfl,
      fun hfault => setF_runState_eq_halted_iff (s := s.setSp (s.sp + 1)) hfault _⟩
  case discard =>
    exact ⟨s.setSp (s.sp + 1), exec_eq .popDiscard s, rfl, fun q => s.setSp_reg q _, rfl, rfl, ⟨rfl, rfl⟩, fun _ => rfl⟩

/-! ## `IP` through the stack -/

/-- `POP_IP` moves `SP` and sets `IP` to the word popped, and writes nothing else. -/
theorem exec_popIp (s : State) : exec .popIp s =
    .next ((s.setSp (s.sp + 2)).setIp (joinBytes (s.memRead (s.sp + 2)) (s.memRead (s.sp + 1)))) := by
  rw [exec_eq, shapeOf, run_popIp]

/-- Settles O19: `PUSH_IP` is `push16` of `IP`, and `POP_IP` joins the two bytes above `SP`. -/
theorem pushIpAndPopIp : Obligations.PushIpAndPopIp := by
  unfold Obligations.PushIpAndPopIp
  refine ⟨runsAs_encode .pushIp, fun s => ?push, runsAs_encode .popIp, fun s => ?pop⟩
  case push =>
    exact ⟨push16 s.ip s, exec_eq .pushIp s, push16_memRead s.ip s, push16_storeFrame s.ip s, push16_sp s.ip s⟩
  case pop =>
    have hregs (q : Reg) (w : Addr) : ((s.setSp (s.sp + 2)).setIp w).reg q = s.reg q := by
      rw [State.setIp_reg, State.setSp_reg]
    exact ⟨_, exec_popIp s, joinBytes_toNat _ _, rfl, fun q => hregs q _, rfl, ⟨rfl, rfl⟩, fun _ => rfl⟩

/-! ## A push and its pop -/

/-- The byte that a pop after a push reads is the byte pushed, and `SP` is where it was (R235). -/
theorem pop_address_after_push {v : Byte} {s t : State} (hstored : StoredOnly s.sp v s t) (hsp : t.sp = s.sp - 1) :
    t.sp + 1 = s.sp ∧ t.memRead (t.sp + 1) = v := by
  have hback : t.sp + 1 = s.sp := by rw [hsp, BitVec.sub_add_cancel]
  exact ⟨hback, by rw [hback, hstored, if_pos rfl]⟩

/-- Settles O38 from what each push and each pop does: the pop reads at the address the push stored at. -/
theorem pushThenPopRestores : Obligations.PushThenPopRestores := by
  unfold Obligations.PushThenPopRestores
  obtain ⟨-, -, hpushF, hpushOperand⟩ := pushesOfAByte
  obtain ⟨-, -, hpopF, -⟩ := popsOfAByte
  refine ⟨fun i r hrow v s => ?register, fun s => ?flags, fun s => ?pointer⟩
  case register =>
    have hs : shapeOf i = .pop r := by
      fin_cases hrow <;> rfl
    obtain ⟨-, -, hpushImm⟩ := hpushOperand v
    obtain ⟨⟨t, ht, hstored, ⟨hregs, hf, -⟩, hsp⟩, -⟩ := hpushImm s
    obtain ⟨-, hpop⟩ := pop_spec rfl hs
    obtain ⟨u, hu, husp, hureg, huregs, huf, -⟩ := hpop t
    obtain ⟨hback, hread⟩ := pop_address_after_push hstored hsp
    exact ⟨t, u, ht, hu, hureg.trans hread, husp.trans hback, fun q hq => (huregs q hq).trans (hregs q), huf.trans hf⟩
  case flags =>
    obtain ⟨t, ht, hstored, ⟨hregs, -⟩, hsp, -⟩ := hpushF s
    obtain ⟨u, hu, husp, huf, huregs, -⟩ := hpopF t
    obtain ⟨hback, hread⟩ := pop_address_after_push hstored hsp
    exact ⟨t, u, ht, hu, huf.trans hread, husp.trans hback, fun q => (huregs q).trans (hregs q)⟩
  case pointer =>
    obtain ⟨-, -, -, hpopIp⟩ := pushIpAndPopIp
    obtain ⟨hregs, hf, -⟩ := push16_storeFrame s.ip s
    obtain ⟨u, hu, -, -, huregs, huf, -⟩ := hpopIp (push16 s.ip s)
    obtain rfl := Host.Outcome.next.inj (hu.symm.trans (exec_eq .popIp _))
    obtain ⟨hip, hsp⟩ := pop16_push16 s.ip s
    exact ⟨_, _, exec_eq .pushIp s, hu, hip, hsp, fun q => (huregs q).trans (hregs q), huf.trans hf⟩

end Sys2Proof.Proofs
end

section
/-! PROOFS. The indirect loads (R245, R246), the exception (R251, R252), whole runs (R250, R288), and the reset input (R280,
R284). -/

namespace Sys2Proof.Proofs

open Sys2Proof.Machine Sys2Proof.Claims

/-! ## The indirect loads -/

theorem joinBytes_eq_ofNat (h l : Byte) : joinBytes h l = BitVec.ofNat 16 (h.toNat * 256 + l.toNat) := by
  rw [← joinBytes_toNat, BitVec.ofNat_toNat, BitVec.setWidth_eq]

/-- An instruction of the indirect-load shape writes the byte at the register pair to the low register of the pair. -/
theorem exec_of_deref {i : Instr} {hi lo : Reg} (hs : shapeOf i = .deref hi lo) (s : State) : ∃ t, exec i s = .next t ∧
    t.reg lo = s.memRead (BitVec.ofNat 16 ((s.reg hi).toNat * 256 + (s.reg lo).toNat)) ∧ RegisterFrame lo s t := by
  refine ⟨_, exec_eq i s, ?_⟩
  rw [hs, run_deref, joinBytes_eq_ofNat]
  exact ⟨setReg_reg_self s lo _, setReg_registerFrame s lo _⟩

/-- Settles O20: the two instructions are indirect loads through `{B, A}` and `{D, C}`. -/
theorem indirectLoads : Obligations.IndirectLoads :=
  ⟨runsAs_encode .derefAB, runsAs_encode .derefCD,
    fun s => ⟨exec_of_deref (i := .derefAB) rfl s, exec_of_deref (i := .derefCD) rfl s⟩⟩

/-! ## The exception -/

theorem raiseIllegalOpcode_reg (op : Byte) (s : State) (q : Reg) : (raiseIllegalOpcode op s).reg q = s.reg q := by
  cases q <;> rfl

theorem continueOutput_of_fault {s : State} (h : s.fault = true) : continueOutput s = false := by
  rw [continueOutput, h, Bool.not_true, Bool.and_false]

theorem faultOutput_of_fault {s : State} (h : s.fault = true) : faultOutput s = some (.illegalOpcode s.insn) :=
  if_pos h

theorem fetchInstr_of_illegal_byte {s : State} (hb : 0x93 ≤ (s.memRead s.ip).toNat) :
    fetchInstr s = .illegal (s.memRead s.ip) := by
  obtain ⟨-, hf⟩ | ⟨i, hi, -⟩ := fetchInstr_spec s
  · exact hf
  · have := opcodeOf_lt i
    omega

/-- Settles O25: the step is the exception, which writes the two latches; the outputs follow from `FAULT`. -/
theorem illegalOpcodeException : Obligations.IllegalOpcodeException := by
  unfold Obligations.IllegalOpcodeException
  intro s hr hb
  have hfault := raiseIllegalOpcode_fault s (s.memRead s.ip)
  exact ⟨⟨_, step_of_illegal_byte hr hb, raiseIllegalOpcode_insn _ _, hfault, raiseIllegalOpcode_reg _ s, rfl, rfl, rfl,
    fun _ => rfl, raiseIllegalOpcode_runState _ _, continueOutput_of_fault hfault, faultOutput_of_fault hfault⟩,
    transactions_of_illegal hr (fetchInstr_of_illegal_byte hb)⟩

/-! ## Whole runs -/

/-- Settles O46, by induction on the number of step requests, each of which answers a state. -/
theorem everyRunAnswersAState : Obligations.EveryRunAnswersAState := by
  unfold Obligations.EveryRunAnswersAState
  intro n
  induction n with
  | zero => exact fun s => ⟨s, stepMany_zero s⟩
  | succ n ih =>
    intro s
    obtain ⟨u, hu⟩ := step_total s
    rw [stepMany_succ n hu]
    exact ih u

/-! ## Reset -/

theorem applyReset_resetValues (v : Byte) (s : State) : ResetValues v (applyReset v s) :=
  ⟨rfl, rfl, rfl, rfl, rfl, rfl, rfl, rfl, rfl⟩

/-- Settles O49: reset leaves the constants of R280, whatever the state before it. -/
theorem resetValuesOfTheMachine : Obligations.ResetValuesOfTheMachine :=
  ⟨fun v s => ⟨applyReset_resetValues v s, fun _ => applyReset_memRead _ _ _, rfl⟩,
    Config.insnReset, applyReset_resetValues Config.insnReset State.reset⟩

/-- Settles O48: a step request leaves a stopped core as it is, so a request that it answers Running is a reset. -/
theorem onlyResetLeavesAStop : Obligations.OnlyResetLeavesAStop := by
  unfold Obligations.OnlyResetLeavesAStop
  refine ⟨fun v s => ⟨_, rfl, applyReset_resetValues v s, rfl, applyReset_runState v s⟩, fun q s t hs hq ht => ?_⟩
  cases q with
  | reset v => exact ⟨v, rfl⟩
  | step =>
    obtain rfl : s = t := Host.Outcome.next.inj ((step_of_not_running hs).symm.trans hq)
    exact absurd ht hs

end Sys2Proof.Proofs
end
